-- ==== Sys2Proof/Word.lean ====
section
/-! DEFINITION. The number types of the GT410: bytes, belt positions, tags and wrapping counters,
and the numbers that name outlets, level channels and stations. -/

namespace Sys2Proof

/-- A byte of a CAN frame or of the Identity Port. -/
abbrev Byte := BitVec 8

/-- A belt position: a count that wraps modulo 1,048,576 (Introduction, "Belt position and offsets"). -/
abbrev Position := BitVec 20

/-- A sequence tag, 0 to 4,095, wrapping (R38). -/
abbrev SequenceTag := BitVec 12

/-- A capture number, 0 to 15, wrapping (R23). -/
abbrev CaptureNumber := BitVec 4

/-- A device-level counter, 0 to 4,294,967,295, wrapping to 0 (Introduction, "Quantities and arithmetic"). -/
abbrev DeviceCount := BitVec 32

/-- A per-outlet counter, a row revision or a detection count: 0 to 65,535, wrapping to 0. -/
abbrev ShortCount := BitVec 16

/-- An outlet; `k : OutletId` is the outlet the manual numbers `k.val + 1`. -/
abbrev OutletId := Fin 12

/-- A level channel; `c : ChannelId` is the channel the manual numbers `c.val + 1` (R128):
0 to 11 are FP1 to FP12, 12 is AIR, 13 is RES. -/
abbrev ChannelId := Fin 14

/-- A station of the service link, 0 the site controller, 1 to 6 the concession controllers. The same
number names an owner (0 none or shared) and an owner row of the Routing Table (0 the row none). -/
abbrev StationId := Fin 7

/-- A confidence or a minimum confidence, 0 to 15. -/
abbrev Confidence := Fin 16

end Sys2Proof
end

