-- ==== Sys2Proof/Syntax.lean ====
section
/-! DEFINITION. The commands of the GT410: one constructor of `Instr` for each row of
spec/opcode_table.json. The part is a block: a command is one event at its connections, one expiry of
a time it measures, or the taking of one request. -/

namespace Sys2Proof

/-- The levels of the two encoder phase lines (section 1.1); `true` is high. -/
structure Phases where
  phase1 : Bool
  phase2 : Bool
  deriving DecidableEq, Repr

/-- A CAN base frame: its 11-bit identifier and its data bytes (section 11.1). -/
structure CanFrame where
  identifier : BitVec 11
  data       : List Byte
  deriving DecidableEq, Repr

/-- The commands. A request row carries no operand of its own: its sender, tag, data length and
arguments are those of the oldest request of the receive queue, where FRAME_ARRIVAL put them
(R171, R172). A filtered-edge row names the outlet; the edge and, for GE, its position were reported by
the INPUT_SAMPLE that completed it (R13 to R15). -/
inductive Instr where
  /-- POWER_ON: the phase lines and the e-stop line as they stand at power-on (R1, R158). -/
  | powerOn (phases : Phases) (estopAsserted : Bool)
  /-- ENCODER_EVENT: the new combination of the phase lines (R1). -/
  | encoderEvent (phases : Phases)
  /-- SPEED_INTERVAL_CLOSE (R8). -/
  | speedIntervalClose
  /-- GE_LEADING_EDGE (R24). -/
  | geLeadingEdge
  /-- GE_TRAILING_EDGE (R25). -/
  | geTrailingEdge
  /-- CHUTE_GATE_RISING at outlet `k` (R99). -/
  | chuteGateRising (k : OutletId)
  /-- CRATE_REMOVED at outlet `k` (R105). -/
  | crateRemoved (k : OutletId)
  /-- CRATE_PLACED at outlet `k` (R106). -/
  | cratePlaced (k : OutletId)
  /-- READY_LINE_RISING at outlet `k` (R110). -/
  | readyLineRising (k : OutletId)
  /-- READY_LINE_FALLING at outlet `k` (R110). -/
  | readyLineFalling (k : OutletId)
  /-- RECEIVE_BYTE: a byte received on the Identity Port, with its stop bit found low or not (R18). -/
  | receiveByte (value : Byte) (framingError : Bool)
  /-- FRAME_TIMER_EXPIRY (R19). -/
  | frameTimerExpiry
  /-- CAPTURE_MESSAGE_BEGIN (R17). -/
  | captureMessageBegin
  /-- CAPTURE_MESSAGE_SENT (R17). -/
  | captureMessageSent
  /-- PULSE_END at outlet `k` (R85). -/
  | pulseEnd (k : OutletId)
  /-- CONFIRM_TIMEOUT at outlet `k` (R101). -/
  | confirmTimeout (k : OutletId)
  /-- ESTOP_ASSERTION (R162). -/
  | estopAssertion
  /-- ESTOP_RELEASE (R162). -/
  | estopRelease
  /-- SETTLE_TIME_EXPIRY of channel `c` (R134). -/
  | settleTimeExpiry (c : ChannelId)
  /-- CHANNEL_SAMPLE of channel `c`: the comparator's answer, whether its input is above the reference (R138). -/
  | channelSample (c : ChannelId) (above : Bool)
  /-- FRAME_ARRIVAL: a frame on the CAN segment, remote or data (R170, R171). -/
  | frameArrival (frame : CanFrame) (remote : Bool)
  /-- FRAME_TRANSMITTED (R173). -/
  | frameTransmitted
  /-- UNASSIGNED_REQUEST_CODE (R172). -/
  | unassignedRequestCode
  /-- START (R159). -/
  | start
  /-- DRAIN (R160). -/
  | drain
  /-- STOP (R165). -/
  | stop
  /-- RESUME (R164). -/
  | resume
  /-- INITIALIZE (R166). -/
  | initializeLine
  /-- SET_GEOMETRY (R73). -/
  | setGeometry
  /-- SET_SPEED_CODES (R169). -/
  | setSpeedCodes
  /-- SET_AIR (R82). -/
  | setAir
  /-- SET_PLACE_TIMING (R174). -/
  | setPlaceTiming
  /-- SET_OUTLET_PLACE (R113). -/
  | setOutletPlace
  /-- MASK (R111). -/
  | mask
  /-- UNMASK (R111). -/
  | unmask
  /-- SET_CRATE (R108). -/
  | setCrate
  /-- RELOAD_CRATE (R107). -/
  | reloadCrate
  /-- CLEAR_JAM (R109). -/
  | clearJam
  /-- SET_ROUTE (R119). -/
  | setRoute
  /-- SET_CHANNEL (R132). -/
  | setChannel
  /-- ENABLE_CHANNEL (R133). -/
  | enableChannel
  /-- CHANNEL_OFF (R141). -/
  | channelOff
  /-- ISSUE (R150). -/
  | issue
  /-- ADJUST (R150). -/
  | adjust
  /-- SET_VALUE (R151). -/
  | setValue
  /-- SET_BALANCE_MODE (R154). -/
  | setBalanceMode
  /-- SET_THRESHOLD (R153). -/
  | setThreshold
  /-- CLEAR_FLAGS (R155). -/
  | clearFlags
  /-- READ_LINE (R167). -/
  | readLine
  /-- READ_OUTLET (R115). -/
  | readOutlet
  /-- READ_CONFIRM_QUEUE (R116). -/
  | readConfirmQueue
  /-- READ_TRACK_ENTRY (R58). -/
  | readTrackEntry
  /-- READ_PENDING (R36). -/
  | readPending
  /-- READ_ROUTE (R127). -/
  | readRoute
  /-- READ_CHANNEL (R143). -/
  | readChannel
  /-- READ_BALANCE (R157). -/
  | readBalance
  /-- READ_COUNTS (R175). -/
  | readCounts
  /-- SET_NOTICE_MASK (R176). -/
  | setNoticeMask
  /-- POLL_NOTICES (R178). -/
  | pollNotices
  /-- INPUT_SAMPLE: the raw level of each of the 37 gate inputs at a 1 ms boundary, `true` active (R13). -/
  | inputSample (ge : Bool) (chutes crates readies : Vector Bool 12)
  /-- FRAME_TRANSMISSION_BEGIN (R180). -/
  | frameTransmissionBegin
  deriving DecidableEq, Repr

end Sys2Proof
end

