-- ==== Sys2Proof/Config.lean ====
section
/-! DEFINITION. What the manual leaves open inside one event, as a free value. -/

namespace Sys2Proof

/-- A FREE VALUE. Where two blocks take one and the same event and the manual gives their handlings no
order (Introduction, "Events and their order"; R31), whether the block the manual names second takes it
first. It is applied to the model's counter `State.draws`, so each use is a fresh choice (log 3). -/
opaque Config.otherOrder : Nat → Bool

end Sys2Proof
end

