-- ==== Sys2Proof/Machine/State.lean ====
section
/-! DEFINITION. The state of the GT410, block by block in the order of the manual's chapters, its
values after power-on, and the reasons a step can stop. Times are absolute values of the 1 ms timebase. -/

namespace Sys2Proof.Machine

open Sys2Proof

/-! ## Names the manual gives to states, modes and outcomes (status and value tables of 11.3) -/

/-- The line states a HALT can return to (R162). -/
inductive ResumeState where
  | run
  | drain
  deriving DecidableEq, Repr

/-- The line state (section 10.1). The resume state is present only in HALT (R158, R162). -/
inductive LineState where
  | standby
  | run
  | drain
  | halt (resume : ResumeState)
  deriving DecidableEq, Repr

/-- The cause a LINE notice carries (R167). -/
inductive LineCause where
  | powerOn
  | start
  | drain
  | drainDone
  | stop
  | resume
  | estop
  | reverse
  | initialize_
  deriving DecidableEq, Repr

/-- The governor condition reported with the speed reference (R168). -/
inductive Governor where
  | stopped
  | slow
  | run
  deriving DecidableEq, Repr

/-- The ware classes, code 0 to 10 (Introduction, "Ware Classes, Families and Owners"). -/
inductive WareClass where
  | unknown
  | largePlate
  | sidePlate
  | bowl
  | cup
  | saucer
  | glass
  | cutlery
  | tray
  | disposable
  | foodWaste
  deriving DecidableEq, Repr

/-- The outlet modes (section 6.1). -/
inductive OutletMode where
  | crate
  | handoff
  deriving DecidableEq, Repr

/-- The outlet states (R94). -/
inductive OutletState where
  | unconfigured
  | opened
  | full
  | swap
  | held
  | jammed
  deriving DecidableEq, Repr

/-- The states of a track record (section 3.1). -/
inductive TrackState where
  | waiting
  | requesting
  | toResidue
  deriving DecidableEq, Repr

/-- The grant schemes (R81). -/
inductive GrantScheme where
  | fixed
  | rotating
  deriving DecidableEq, Repr

/-- How a pulse duration was reached (R69). -/
inductive PulseClamp where
  | none_
  | raised
  | cut
  | lowSpeed
  deriving DecidableEq, Repr

/-- The phase of a confirm-queue entry; an AWAITING entry carries its deadline (section 6.3). -/
inductive ConfirmPhase where
  | pulsing
  | awaiting (deadline : Nat)
  deriving DecidableEq, Repr

/-- The channel modes (R130). -/
inductive ChannelMode where
  | watch
  | checkReport
  | checkAlert
  deriving DecidableEq, Repr

/-- The notice-edge settings (R130). -/
inductive NoticeEdges where
  | detect
  | release
  | both
  | never
  deriving DecidableEq, Repr

/-- The channel states (section 8.3). -/
inductive ChannelState where
  | off
  | settling
  | samplingFirst
  | watching
  deriving DecidableEq, Repr

/-- A channel's last verdict (R142). -/
inductive Verdict where
  | none_
  | clear
  | detected
  deriving DecidableEq, Repr

/-- The event a CHANNEL notice reports (R140, R141). -/
inductive ChannelEvent where
  | detect
  | release
  | stoppedWhileDetected
  deriving DecidableEq, Repr

/-- The balance modes (R145). -/
inductive BalanceMode where
  | saturate
  | wrap
  deriving DecidableEq, Repr

/-- The status of a response (section 11.3). -/
inductive Status where
  | done
  | notYours
  | badValue
  | badRoute
  | wrongState
  | badLength
  | unknown
  deriving DecidableEq, Repr

/-! ## Belt Sensing Unit (chapter 1) -/

/-- The filter record of one gate input (R13): its filtered state, `true` active, and its disagreement run. -/
structure FilterRecord where
  active : Bool
  run    : Nat
  deriving DecidableEq, Repr

/-- The gate inputs (R12). -/
inductive GateInput where
  | ge
  | chuteGate (k : OutletId)
  | crateSensor (k : OutletId)
  | readyLine (k : OutletId)
  deriving DecidableEq, Repr

/-- A filtered edge as reported by the sample that completed it (R13, R14): the input, whether it rose,
and for GE the position reported with it (0 for the other inputs, whose edges carry none). -/
structure FilteredEdge where
  input    : GateInput
  rising   : Bool
  position : Position
  deriving DecidableEq, Repr

/-- The Belt Sensing Unit: the encoder, the belt position, the backlash debt, the speed measurement and
the filter records (chapter 1). `edges` holds the reported edges not yet taken by their receivers. -/
structure Sensing where
  previous      : Phases
  position      : Position
  debt          : Nat
  encoderSkip   : DeviceCount
  intervalCount : Nat
  /-- The speed ring, the oldest count first (R8). -/
  ring          : Vector Nat 8
  speed         : Nat
  /-- The time at which the present speed interval closes (section 1.3). -/
  intervalEnd   : Nat
  ge            : FilterRecord
  geRunStart    : Position
  /-- The position reported with the last leading edge (R14). -/
  geLeading     : Position
  chuteGates    : Vector FilterRecord 12
  crateSensors  : Vector FilterRecord 12
  readyLines    : Vector FilterRecord 12
  edges         : List FilteredEdge
  deriving DecidableEq, Repr

/-! ## Admission Unit (chapter 2) -/

/-- The record of the identification station, made safe (R21). -/
structure Identity where
  wareClass  : WareClass
  owner      : StationId
  confidence : Confidence
  deriving DecidableEq, Repr

/-- A pending entry (section 2.2): Pt and the record are absent until they come. -/
structure PendingEntry where
  capture  : CaptureNumber
  leading  : Position
  trailing : Option Position
  record   : Option Identity
  deriving DecidableEq, Repr

/-- The framing state of the Identity Port's receiver (R18); COLLECTING holds the bytes taken so far,
the mark included, so that its count is their number. -/
inductive Framing where
  | hunting
  | collecting (taken : List Byte)
  deriving DecidableEq, Repr

/-- The Admission Unit (chapter 2). -/
structure Admission where
  /-- The pending list, the head first. -/
  entries          : List PendingEntry
  captureCounter   : CaptureNumber
  /-- The capture messages not yet begun, the oldest first (R17). -/
  captureQueue     : List CaptureNumber
  /-- The two bytes being sent on the Identity Port, absent while the line is idle (R17). -/
  sending          : Option (Byte × Byte)
  framing          : Framing
  /-- The time at which the frame timer expires, absent while it is stopped (R19). -/
  frameTimer       : Option Nat
  identReady       : Bool
  untracked        : DeviceCount
  overflow         : DeviceCount
  noIdentity       : DeviceCount
  merged           : DeviceCount
  duplicate        : DeviceCount
  stale            : DeviceCount
  badFrame         : DeviceCount
  badCheck         : DeviceCount
  pendingAbandoned : DeviceCount
  deriving DecidableEq, Repr

/-! ## Track Unit (chapter 3) -/

/-- A track record (section 3.1). A primary or a target that is absent is residue. -/
structure TrackRecord where
  tag        : SequenceTag
  footprint  : Nat
  centre     : Position
  wareClass  : WareClass
  owner      : StationId
  confidence : Confidence
  primary    : Option OutletId
  alternate  : Option OutletId
  target     : Option OutletId
  state      : TrackState
  fallback   : Bool
  deriving DecidableEq, Repr

/-- The Track Unit: the Belt Track, the oldest record first, the sequence counter and the outcome
counters (R37, R38, R56). -/
structure Track where
  records     : List TrackRecord
  sequence    : SequenceTag
  admitted    : DeviceCount
  sorted      : DeviceCount
  unconfirmed : DeviceCount
  residue     : DeviceCount
  missed      : DeviceCount
  abandoned   : DeviceCount
  deriving DecidableEq, Repr

/-! ## Fire Timing Unit (chapter 4) -/

/-- A pulse computation, kept as an outlet's last pulse record (R69). -/
structure PulseRecord where
  duration : Nat
  speed    : Nat
  clamp    : PulseClamp
  deriving DecidableEq, Repr

/-- An outlet's timing parameters, lead and last pulse record (R60, R62, R69). -/
structure OutletTiming where
  offset    : Option Nat
  latency   : Nat
  extension : Nat
  minPulse  : Nat
  maxPulse  : Nat
  lead      : Nat
  lastPulse : PulseRecord
  deriving DecidableEq, Repr

/-- The identity deadline offset Q and the belt end offset E (R73). -/
structure Geometry where
  identityOffset : Nat
  beltEnd        : Option Nat
  deriving DecidableEq, Repr

/-! ## Air Arbiter (chapter 5) -/

/-- The tag and the pulse end of an energised diverter (R78). -/
structure Pulse where
  tag      : SequenceTag
  pulseEnd : Nat
  deriving DecidableEq, Repr

/-- The Air Arbiter. A request or a pulse that is absent is none for that outlet; an output is energised
exactly while its pulse record is present (R78, R79). -/
structure Air where
  slots        : Nat
  scheme       : GrantScheme
  rotationMark : OutletId
  airWait      : Bool
  requests     : Vector (Option SequenceTag) 12
  pulses       : Vector (Option Pulse) 12
  grants       : DeviceCount
  pulsesCut    : DeviceCount
  deriving DecidableEq, Repr

/-! ## Outlet Controller (chapter 6) -/

/-- A confirm-queue entry (section 6.3). -/
structure ConfirmEntry where
  tag       : SequenceTag
  owner     : StationId
  wareClass : WareClass
  phase     : ConfirmPhase
  deriving DecidableEq, Repr

/-- An outlet record (R94). -/
structure Outlet where
  mode            : OutletMode
  owner           : StationId
  confirmWindow   : Nat
  baseCount       : Nat
  currentCount    : Nat
  autoreload      : Bool
  state           : OutletState
  masked          : Bool
  /-- The confirm queue, the oldest entry first. -/
  queue           : List ConfirmEntry
  consecutive     : Nat
  cratesCompleted : ShortCount
  sorted          : ShortCount
  unconfirmed     : ShortCount
  overfill        : ShortCount
  spill           : ShortCount
  stray           : ShortCount
  deriving DecidableEq, Repr

/-! ## Routing Table (chapter 7) -/

/-- A route entry (section 7.1): a primary that is absent is residue. -/
structure RouteEntry where
  primary       : Option OutletId
  alternate     : Option OutletId
  minConfidence : Confidence
  deriving DecidableEq, Repr

/-- An owner row: its eleven entries by class code and its revision (R117). -/
structure RouteRow where
  entries  : Vector RouteEntry 11
  revision : ShortCount
  deriving DecidableEq, Repr

/-! ## Level Supervisor (chapter 8) -/

/-- A channel record (sections 8.1 to 8.5). -/
structure Channel where
  mode           : ChannelMode
  trip           : Nat
  release        : Nat
  period         : Nat
  edges          : NoticeEdges
  state          : ChannelState
  ready          : Bool
  detected       : Bool
  lastVerdict    : Verdict
  detectionCount : ShortCount
  /-- The first run: its candidate, `true` the condition shown, and its count; absent while empty (R135). -/
  firstRun       : Option (Bool × Nat)
  opposing       : Nat
  /-- The time at which the settle time expires, present in SETTLING (R133). -/
  settleEnd      : Option Nat
  /-- The next sample instant, present in SAMPLING-FIRST and WATCHING (R134). -/
  nextSample     : Option Nat
  deriving DecidableEq, Repr

/-! ## Balance Unit (chapter 9) -/

/-- An accumulator (R144). -/
structure Accumulator where
  value     : Int
  excursion : Int
  overFlag  : Bool
  aboveFlag : Bool
  deriving DecidableEq, Repr

/-- A concession's accumulators, thresholds by family code less 1, and balance mode (R144, R145). -/
structure Balance where
  mode       : BalanceMode
  accounts   : Vector Accumulator 6
  thresholds : Vector Nat 6
  deriving DecidableEq, Repr

/-! ## Line Controller (chapter 10) -/

/-- The Line Controller: `estop` is the e-stop line as last taken, `true` asserted (R158). -/
structure Line where
  state    : LineState
  estop    : Bool
  speedRef : Nat
  governor : Governor
  runCode  : Nat
  slowCode : Nat
  slowMark : Nat
  airCopy  : Bool
  resCopy  : Bool
  deriving DecidableEq, Repr

/-! ## Link Interface (chapter 11) -/

/-- A notice with its detail (section 11.5). The old state of a LINE notice is absent at power-on. -/
inductive Notice where
  | line (old : Option LineState) (new : LineState) (cause : LineCause)
  | fault (debt : Nat) (state : LineState)
  | overflow (counterIndex : Nat) (count : DeviceCount)
  | crateFull (k : OutletId) (currentCount : Nat) (cratesCompleted : ShortCount)
  | jam (k : OutletId) (unconfirmed : ShortCount)
  | channel (c : ChannelId) (event : ChannelEvent) (trip release : Nat)
  | checkDone (c : ChannelId) (verdict : Verdict)
  | balanceHigh (concession family : Fin 6) (value excursion : Int) (threshold : Nat)
  deriving DecidableEq, Repr

/-- A request of the receive queue: its station and its data bytes (R170, R171). -/
structure Request where
  station : StationId
  data    : List Byte
  deriving DecidableEq, Repr

/-- What the Link Interface holds for one station (R176, R177). -/
structure StationLink where
  mask    : Byte
  /-- The pending notice set, the oldest pair first, each with its detail. -/
  notices : List Notice
  lost    : Bool
  deriving DecidableEq, Repr

/-- The placement stage: the timing values of a coming placement (R174). -/
structure PlacementStage where
  outlet    : OutletId
  latency   : Nat
  extension : Nat
  minPulse  : Nat
  maxPulse  : Nat
  deriving DecidableEq, Repr

/-- The Link Interface (chapter 11). -/
structure Link where
  /-- The receive queue, the oldest request first (R171). -/
  receiveQueue  : List Request
  /-- The transmit queue, the oldest frame first (R173). -/
  transmitQueue : List CanFrame
  /-- Whether the transmission of the oldest frame has begun (R180). -/
  transmitting  : Bool
  stations      : Vector StationLink 7
  stage         : Option PlacementStage
  overflowArm   : Bool
  requestsLost  : DeviceCount
  framesSkipped : DeviceCount
  deriving DecidableEq, Repr

/-! ## The machine -/

/-- The whole state. `now` is the timebase in milliseconds; `draws` counts the free values used (the
model's own field, log 3); `pending` is the queue of commands waiting, first in, first out. -/
structure State where
  now       : Nat
  sensing   : Sensing
  admission : Admission
  track     : Track
  timing    : Vector OutletTiming 12
  geometry  : Geometry
  air       : Air
  outlets   : Vector Outlet 12
  routes    : Vector RouteRow 7
  channels  : Vector Channel 14
  balances  : Vector Balance 6
  line      : Line
  link      : Link
  draws     : Nat
  pending   : List Instr
  deriving DecidableEq, Repr

/-- The faults of the part. There is none: the manual gives every event and every request an effect, so
no meaning faults. -/
inductive Fault where
  deriving DecidableEq, Repr

/-- The refusals. -/
inductive Refusal where
  /-- A command with no meaning yet, refused by `exec` by its mnemonic (safe). Every command has its
  meaning, so no arm raises it. -/
  | notModelled (mnemonic : String)
  deriving DecidableEq, Repr

/-! ## Updates of one block -/

/-- Advance the timebase. -/
def State.onNow (f : Nat → Nat) (s : State) : State := { s with now := f s.now }
/-- Change the Belt Sensing Unit. -/
def State.onSensing (f : Sensing → Sensing) (s : State) : State := { s with sensing := f s.sensing }
/-- Change the Admission Unit. -/
def State.onAdmission (f : Admission → Admission) (s : State) : State := { s with admission := f s.admission }
/-- Change the Track Unit. -/
def State.onTrack (f : Track → Track) (s : State) : State := { s with track := f s.track }
/-- Change the timing of every outlet. -/
def State.onTimings (f : Vector OutletTiming 12 → Vector OutletTiming 12) (s : State) : State :=
  { s with timing := f s.timing }
/-- Change the timing of outlet `k`. -/
def State.onTiming (k : OutletId) (f : OutletTiming → OutletTiming) (s : State) : State :=
  { s with timing := s.timing.set k (f s.timing[k]) }
/-- Change the geometry. -/
def State.onGeometry (f : Geometry → Geometry) (s : State) : State := { s with geometry := f s.geometry }
/-- Change the Air Arbiter. -/
def State.onAir (f : Air → Air) (s : State) : State := { s with air := f s.air }
/-- Change every outlet record. -/
def State.onOutlets (f : Vector Outlet 12 → Vector Outlet 12) (s : State) : State :=
  { s with outlets := f s.outlets }
/-- Change the record of outlet `k`. -/
def State.onOutlet (k : OutletId) (f : Outlet → Outlet) (s : State) : State :=
  { s with outlets := s.outlets.set k (f s.outlets[k]) }
/-- Change the Routing Table. -/
def State.onRoutes (f : Vector RouteRow 7 → Vector RouteRow 7) (s : State) : State :=
  { s with routes := f s.routes }
/-- Change every channel record. -/
def State.onChannels (f : Vector Channel 14 → Vector Channel 14) (s : State) : State :=
  { s with channels := f s.channels }
/-- Change the record of channel `c`. -/
def State.onChannel (c : ChannelId) (f : Channel → Channel) (s : State) : State :=
  { s with channels := s.channels.set c (f s.channels[c]) }
/-- Change the balance of concession `c`. -/
def State.onBalance (c : Fin 6) (f : Balance → Balance) (s : State) : State :=
  { s with balances := s.balances.set c (f s.balances[c]) }
/-- Change the Line Controller. -/
def State.onLine (f : Line → Line) (s : State) : State := { s with line := f s.line }
/-- Change the Link Interface. -/
def State.onLink (f : Link → Link) (s : State) : State := { s with link := f s.link }
/-- Change what the Link Interface holds for station `a`. -/
def State.onStation (a : StationId) (f : StationLink → StationLink) (s : State) : State :=
  { s with link := { s.link with stations := s.link.stations.set a (f s.link.stations[a]) } }
/-- Use up one free value. -/
def State.onDraws (f : Nat → Nat) (s : State) : State := { s with draws := f s.draws }

/-! ## The values after power-on -/

/-- A filter record after power-on (R16). -/
def FilterRecord.powerOn : FilterRecord := { active := false, run := 0 }

/-- Belt sensing after power-on, the previous combination taken from the phase lines (R1, R3, R6, R11, R16).
The manual gives `geLeading` no value; nothing reads it before a leading edge (log 6). -/
def Sensing.powerOn (phases : Phases) : Sensing where
  previous := phases
  position := 0
  debt := 0
  encoderSkip := 0
  intervalCount := 0
  ring := Vector.replicate 8 0
  speed := 0
  intervalEnd := 32
  ge := .powerOn
  geRunStart := 0
  geLeading := 0
  chuteGates := Vector.replicate 12 .powerOn
  crateSensors := Vector.replicate 12 .powerOn
  readyLines := Vector.replicate 12 .powerOn
  edges := []

/-- Admission after power-on (R17, R18, R22, R23, R34, R35). -/
def Admission.powerOn : Admission where
  entries := []
  captureCounter := 0
  captureQueue := []
  sending := none
  framing := .hunting
  frameTimer := none
  identReady := false
  untracked := 0
  overflow := 0
  noIdentity := 0
  merged := 0
  duplicate := 0
  stale := 0
  badFrame := 0
  badCheck := 0
  pendingAbandoned := 0

/-- The track after power-on (R59). -/
def Track.powerOn : Track where
  records := []
  sequence := 0
  admitted := 0
  sorted := 0
  unconfirmed := 0
  residue := 0
  missed := 0
  abandoned := 0

/-- An outlet's timing after power-on (R60, R64, R69). -/
def OutletTiming.powerOn : OutletTiming where
  offset := none
  latency := 30
  extension := 0
  minPulse := 20
  maxPulse := 250
  lead := 0
  lastPulse := { duration := 0, speed := 0, clamp := .none_ }

/-- The geometry after power-on (R73). -/
def Geometry.powerOn : Geometry := { identityOffset := 200, beltEnd := none }

/-- The Air Arbiter after power-on (R77, R78, R79, R81, R87, R92). -/
def Air.powerOn : Air where
  slots := 2
  scheme := .fixed
  rotationMark := 0
  airWait := false
  requests := Vector.replicate 12 none
  pulses := Vector.replicate 12 none
  grants := 0
  pulsesCut := 0

/-- An outlet record after power-on (R94). -/
def Outlet.powerOn : Outlet where
  mode := .crate
  owner := 0
  confirmWindow := 300
  baseCount := 60
  currentCount := 60
  autoreload := true
  state := .unconfigured
  masked := true
  queue := []
  consecutive := 0
  cratesCompleted := 0
  sorted := 0
  unconfirmed := 0
  overfill := 0
  spill := 0
  stray := 0

/-- A row of the Routing Table after power-on (R117). -/
def RouteRow.powerOn : RouteRow where
  entries := Vector.replicate 11 { primary := none, alternate := none, minConfidence := 6 }
  revision := 0

/-- A channel after power-on, but for the codes of AIR (R130, R142). -/
def Channel.powerOn : Channel where
  mode := .watch
  trip := 128
  release := 112
  period := 8
  edges := .both
  state := .off
  ready := false
  detected := false
  lastVerdict := .none_
  detectionCount := 0
  firstRun := none
  opposing := 0
  settleEnd := none
  nextSample := none

/-- The channel AIR. -/
def airChannel : ChannelId := 12

/-- The channel RES. -/
def resChannel : ChannelId := 13

/-- A concession's balance after power-on (R144, R145). -/
def Balance.powerOn : Balance where
  mode := .saturate
  accounts := Vector.replicate 6 { value := 0, excursion := 0, overFlag := false, aboveFlag := false }
  thresholds := Vector.replicate 6 32767

/-- The Line Controller after power-on, the e-stop line read as it stands (R158). -/
def Line.powerOn (estopAsserted : Bool) : Line where
  state := .standby
  estop := estopAsserted
  speedRef := 0
  governor := .stopped
  runCode := 96
  slowCode := 32
  slowMark := 40
  airCopy := false
  resCopy := false

/-- The Link Interface after power-on: empty but for the LINE notice of power-on, which is the first pair
of station 0's set and whose frame is the first of the transmit queue (R158, R167, R180). -/
def Link.powerOn : Link where
  receiveQueue := []
  transmitQueue := [{ identifier := 0x660, data := [1, 0, 0xFF, 0, 0, 0, 0, 0] }]
  transmitting := false
  stations := (Vector.replicate 7 { mask := 0xFF, notices := [], lost := false }).set 0
    { mask := 0xFF, notices := [.line none .standby .powerOn], lost := false }
  stage := none
  overflowArm := true
  requestsLost := 0
  framesSkipped := 0

/-- The part right after power-on with the phase lines and the e-stop line standing so: every block at its
power-on values and the LINE notice raised. -/
def State.powerOn (phases : Phases) (estopAsserted : Bool) : State where
  now := 0
  sensing := .powerOn phases
  admission := .powerOn
  track := .powerOn
  timing := Vector.replicate 12 .powerOn
  geometry := .powerOn
  air := .powerOn
  outlets := Vector.replicate 12 .powerOn
  routes := Vector.replicate 7 .powerOn
  channels := (Vector.replicate 14 .powerOn).set airChannel { Channel.powerOn with trip := 96 }
  balances := Vector.replicate 6 .powerOn
  line := .powerOn estopAsserted
  link := .powerOn
  draws := 0
  pending := []

/-- The part right after reset: power-on with both phase lines low and the e-stop line released, a choice
of what stands at the pins (log 5). -/
def State.reset : State := State.powerOn { phase1 := false, phase2 := false } false

end Sys2Proof.Machine
end

