-- ==== Sys2Proof/Machine/Operands.lean ====
section
/-! DEFINITION. The arithmetic of positions, speed, leads and pulses, the codes by which named values
travel, and the layouts of bytes, requests, responses and notices. -/

namespace Sys2Proof.Machine

open Sys2Proof

/-! ## Belt positions (Introduction, "Belt position and offsets") -/

/-- The signed modular difference "x − y" of two positions, from −524,288 to 524,287. -/
def signedDiff (x y : Position) : Int := (x - y).toInt

/-- The position `n` counts downstream of `x`, modulo 1,048,576. -/
def downstreamBy (x : Position) (n : Nat) : Position := x + BitVec.ofNat 20 n

/-! ## Encoder (section 1.1) -/

/-- The combination that follows `p` in the forward order (section 1.1). -/
def forwardOf (p : Phases) : Phases := { phase1 := !p.phase2, phase2 := p.phase1 }

/-- What a change of the phase lines is (R1). -/
inductive EncoderStep where
  | none_
  | forward
  | reverse
  | skip
  deriving DecidableEq, Repr

/-- The classification of the change from `old` to `new` (R1); lines that stand as before are no change. -/
def classifyStep (old new : Phases) : EncoderStep :=
  if new = old then .none_
  else if new = forwardOf old then .forward
  else if old = forwardOf new then .reverse
  else .skip

/-! ## Speed, leads and pulses (R8, R9, R43, R61, R67 to R69) -/

/-- The ring sum S (R8). -/
def ringSum (ring : Vector Nat 8) : Nat := ring.toList.sum

/-- The speed from the ring sum, saturated at 1,023 (R9). -/
def speedOf (sum : Nat) : Nat := min (sum * 125 / 32) 1023

/-- The lead of a latency at a speed, rounded half up (R61). -/
def leadOf (latency speed : Nat) : Nat := (latency * speed + 500) / 1000

/-- The half-footprint: half the footprint, one of 3 raised to 4 (R43, R65). -/
def halfFootprint (footprint : Nat) : Nat := (if footprint = 3 then 4 else footprint) / 2

/-- The three classifications of a record against a window (R43). -/
inductive Window where
  | notYet
  | inWindow
  | passed
  deriving DecidableEq, Repr

/-- The classification from the offset distance, the half-footprint and the lead (R43). -/
def windowOf (r : Int) (h lead : Nat) : Window :=
  if r < -(h : Int) - (lead : Int) then .notYet
  else if r ≤ -(lead : Int) then .inWindow
  else .passed

/-- The travel time: the least whole number of milliseconds not less than `h * 1000 / v` (R67). -/
def travelTime (h v : Nat) : Nat := (h * 1000 + (v - 1)) / v

/-- The pulse duration with the speed and the clamp that gave it (R67, R68, R69). -/
def pulseOf (h v extension minPulse maxPulse : Nat) : PulseRecord :=
  if v < 10 then { duration := maxPulse, speed := v, clamp := .lowSpeed }
  else
    let sum := travelTime h v + extension
    if sum < minPulse then { duration := minPulse, speed := v, clamp := .raised }
    else if maxPulse < sum then { duration := maxPulse, speed := v, clamp := .cut }
    else { duration := sum, speed := v, clamp := .none_ }

/-! ## Ware classes, families and identities (R21; Introduction) -/

/-- The class of a code, a code above 10 being UNKNOWN (R21). -/
def WareClass.ofCode : Nat → WareClass
  | 1 => .largePlate
  | 2 => .sidePlate
  | 3 => .bowl
  | 4 => .cup
  | 5 => .saucer
  | 6 => .glass
  | 7 => .cutlery
  | 8 => .tray
  | 9 => .disposable
  | 10 => .foodWaste
  | _ => .unknown

/-- The code of a class. -/
def WareClass.code : WareClass → Fin 11
  | .unknown => 0
  | .largePlate => 1
  | .sidePlate => 2
  | .bowl => 3
  | .cup => 4
  | .saucer => 5
  | .glass => 6
  | .cutlery => 7
  | .tray => 8
  | .disposable => 9
  | .foodWaste => 10

/-- The family of a class, by family code less 1 (section 9.1). -/
def WareClass.family : WareClass → Option (Fin 6)
  | .unknown | .disposable | .foodWaste => none
  | .largePlate | .sidePlate => some 0
  | .bowl => some 1
  | .cup | .saucer => some 2
  | .glass => some 3
  | .cutlery => some 4
  | .tray => some 5

/-- The owner of a code, a code above 6 being none (R21). -/
def ownerOfCode (n : Nat) : StationId := if h : n < 7 then ⟨n, h⟩ else 0

/-- The confidence of a code, a code above 15 being 0 (R21). -/
def confidenceOfCode (n : Nat) : Confidence := if h : n < 16 then ⟨n, h⟩ else 0

/-- The fields of an accepted record made safe; a class without a family has no owner (R21). -/
def madeSafe (classByte ownerByte confidenceByte : Byte) : Identity :=
  let c := WareClass.ofCode classByte.toNat
  { wareClass := c
    owner := if c.family.isSome then ownerOfCode ownerByte.toNat else 0
    confidence := confidenceOfCode confidenceByte.toNat }

/-- An item without identity: UNKNOWN, owner none, confidence 0 (R29, R30). -/
def unidentified : Identity := { wareClass := .unknown, owner := 0, confidence := 0 }

/-! ## Subjects named by numbers -/

/-- The outlet of a number from 1 to 12. -/
def outletOf (n : Nat) : Option OutletId := if h : n - 1 < 12 then if n = 0 then none else some ⟨n - 1, h⟩ else none

/-- The channel of a number from 1 to 14. -/
def channelOf (n : Nat) : Option ChannelId := if h : n - 1 < 14 then if n = 0 then none else some ⟨n - 1, h⟩ else none

/-- The station, owner or row of a number from 0 to 6. -/
def stationOf (n : Nat) : Option StationId := if h : n < 7 then some ⟨n, h⟩ else none

/-- The concession or the family of a number from 1 to 6. -/
def sixOf (n : Nat) : Option (Fin 6) := if h : n - 1 < 6 then if n = 0 then none else some ⟨n - 1, h⟩ else none

/-- The class of a code from 0 to 10, as an argument (R119). -/
def classArgument (n : Nat) : Option (Fin 11) := if h : n < 11 then some ⟨n, h⟩ else none

/-- The confidence of a number from 0 to 15, as an argument (R119). -/
def confidenceArgument (n : Nat) : Option Confidence := if h : n < 16 then some ⟨n, h⟩ else none

/-- The number of an outlet, or 0 for residue or an absent alternate. -/
def outletNumber : Option OutletId → Nat
  | none => 0
  | some k => k.val + 1

/-- The station of a concession. -/
def concessionStation (c : Fin 6) : StationId := c.succ

/-- The fill probe of an outlet (R128). -/
def fillProbe (k : OutletId) : ChannelId := ⟨k.val, by omega⟩

/-- The outlet of a fill probe, none for AIR and RES (R128). -/
def probedOutlet (c : ChannelId) : Option OutletId := if h : c.val < 12 then some ⟨c.val, h⟩ else none

/-- All outlets, from the upstream end. -/
def allOutlets : List OutletId := [0, 1, 2, 3, 4, 5, 6, 7, 8, 9, 10, 11]

/-! ## Codes of named values (section 11.3) -/

/-- 0 clear, inactive or released, 1 set, active or asserted. -/
def flagCode (b : Bool) : Nat := if b then 1 else 0

/-- The code of a line state. -/
def LineState.code : LineState → Nat
  | .standby => 0
  | .run => 1
  | .drain => 2
  | .halt _ => 3

/-- The line state a resume state stands for. -/
def ResumeState.lineState : ResumeState → LineState
  | .run => .run
  | .drain => .drain

/-- The code of a LINE notice's cause (section 11.5). -/
def LineCause.code : LineCause → Nat
  | .powerOn => 0
  | .start => 1
  | .drain => 2
  | .drainDone => 3
  | .stop => 4
  | .resume => 5
  | .estop => 6
  | .reverse => 7
  | .initialize_ => 8

/-- The code of a governor condition. -/
def Governor.code : Governor → Nat
  | .stopped => 0
  | .slow => 1
  | .run => 2

/-- The code of an outlet mode. -/
def OutletMode.code : OutletMode → Nat
  | .crate => 0
  | .handoff => 1

/-- The outlet mode of a code. -/
def OutletMode.ofCode : Nat → Option OutletMode
  | 0 => some .crate
  | 1 => some .handoff
  | _ => none

/-- The code of an outlet state. -/
def OutletState.code : OutletState → Nat
  | .unconfigured => 0
  | .opened => 1
  | .full => 2
  | .swap => 3
  | .held => 4
  | .jammed => 5

/-- The code of a track state. -/
def TrackState.code : TrackState → Nat
  | .waiting => 0
  | .requesting => 1
  | .toResidue => 2

/-- The code of a confirm phase. -/
def ConfirmPhase.code : ConfirmPhase → Nat
  | .pulsing => 0
  | .awaiting _ => 1

/-- The code of a grant scheme. -/
def GrantScheme.code : GrantScheme → Nat
  | .fixed => 0
  | .rotating => 1

/-- The grant scheme of a code. -/
def GrantScheme.ofCode : Nat → Option GrantScheme
  | 0 => some .fixed
  | 1 => some .rotating
  | _ => none

/-- The code of a pulse clamp. -/
def PulseClamp.code : PulseClamp → Nat
  | .none_ => 0
  | .raised => 1
  | .cut => 2
  | .lowSpeed => 3

/-- The code of a channel state. -/
def ChannelState.code : ChannelState → Nat
  | .off => 0
  | .settling => 1
  | .samplingFirst => 2
  | .watching => 3

/-- The code of a channel mode. -/
def ChannelMode.code : ChannelMode → Nat
  | .watch => 0
  | .checkReport => 1
  | .checkAlert => 2

/-- The channel mode of a code. -/
def ChannelMode.ofCode : Nat → Option ChannelMode
  | 0 => some .watch
  | 1 => some .checkReport
  | 2 => some .checkAlert
  | _ => none

/-- The code of a notice-edge setting. -/
def NoticeEdges.code : NoticeEdges → Nat
  | .detect => 0
  | .release => 1
  | .both => 2
  | .never => 3

/-- The notice-edge setting of a code. -/
def NoticeEdges.ofCode : Nat → Option NoticeEdges
  | 0 => some .detect
  | 1 => some .release
  | 2 => some .both
  | 3 => some .never
  | _ => none

/-- The code of a verdict. -/
def Verdict.code : Verdict → Nat
  | .none_ => 0
  | .clear => 1
  | .detected => 2

/-- The code of a CHANNEL notice's event (section 11.5). -/
def ChannelEvent.code : ChannelEvent → Nat
  | .detect => 0
  | .release => 1
  | .stoppedWhileDetected => 2

/-- The code of a balance mode. -/
def BalanceMode.code : BalanceMode → Nat
  | .saturate => 0
  | .wrap => 1

/-- The balance mode of a code. -/
def BalanceMode.ofCode : Nat → Option BalanceMode
  | 0 => some .saturate
  | 1 => some .wrap
  | _ => none

/-- The setting an on/off code names (autoreload, section 11.3). -/
def switchOfCode : Nat → Option Bool
  | 0 => some false
  | 1 => some true
  | _ => none

/-- The status byte (section 11.3). -/
def Status.code : Status → Nat
  | .done => 0
  | .notYours => 1
  | .badValue => 2
  | .badRoute => 3
  | .wrongState => 4
  | .badLength => 5
  | .unknown => 6

/-! ## Numbers as bytes, most significant byte first (section 11.1) -/

/-- A number in one byte. -/
def bytes1 (n : Nat) : List Byte := [BitVec.ofNat 8 n]

/-- A number in two bytes. -/
def bytes2 (n : Nat) : List Byte := [BitVec.ofNat 8 (n / 256), BitVec.ofNat 8 n]

/-- A number in three bytes. -/
def bytes3 (n : Nat) : List Byte := BitVec.ofNat 8 (n / 65536) :: bytes2 n

/-- A number in four bytes. -/
def bytes4 (n : Nat) : List Byte := BitVec.ofNat 8 (n / 16777216) :: bytes3 n

/-- A signed number in one byte, in two's complement. -/
def signedBytes1 (i : Int) : List Byte := [BitVec.ofInt 8 i]

/-- A signed number in two bytes, in two's complement. -/
def signedBytes2 (i : Int) : List Byte := bytes2 (BitVec.ofInt 16 i).toNat

/-- The list cut or filled with zero bytes to `n` bytes (R170). -/
def padTo (n : Nat) (l : List Byte) : List Byte := (l ++ List.replicate n 0).take n

/-! ## Requests (section 11.1) -/

/-- Byte `i` of a request's data, as a number; a missing byte reads 0 (R170). -/
def Request.byte (q : Request) (i : Nat) : Nat := (q.data.getD i 0).toNat

/-- The two bytes from byte `i`, as a number. -/
def Request.word (q : Request) (i : Nat) : Nat := q.byte i * 256 + q.byte (i + 1)

/-- The two bytes from byte `i`, as a signed number. -/
def Request.signedWord (q : Request) (i : Nat) : Int := (BitVec.ofNat 16 (q.word i)).toInt

/-- The station of a request identifier, 0x640 to 0x646 (R170). -/
def requestStation (identifier : BitVec 11) : Option StationId :=
  if identifier.toNat < 0x640 then none else stationOf (identifier.toNat - 0x640)

/-- The request codes of the tables of 11.3 and 11.4. -/
def assignedCodes : List Nat :=
  [0x01, 0x02, 0x03, 0x04, 0x05, 0x06, 0x07, 0x08, 0x09, 0x0A, 0x10, 0x11, 0x12, 0x13, 0x14, 0x18,
   0x20, 0x21, 0x22, 0x28, 0x29, 0x2A, 0x2B, 0x2C, 0x2D, 0x30, 0x31, 0x32, 0x33, 0x34, 0x35, 0x36,
   0x37, 0x38, 0x3E, 0x3F]

/-- The response to a request: its code and tag echoed, the status, and the results (R170, R172). -/
def responseFrame (q : Request) (status : Status) (results : List Byte) : CanFrame where
  identifier := BitVec.ofNat 11 (0x650 + q.station.val)
  data := padTo 8 (q.data.getD 0 0 :: q.data.getD 1 0 :: BitVec.ofNat 8 status.code :: results)

/-! ## Forms of answers (section 11.4) -/

/-- The value form (R175). -/
def valueForm : Option Nat → List Byte
  | some n => bytes4 n ++ [1]
  | none => [0, 0, 0, 0, 0]

/-- The entry form: the tag, or 0xFFFF for an empty position, and the item, or 0xFFFFFF if absent (R175). -/
def entryForm (tag : Option SequenceTag) (item : Option Nat) : List Byte :=
  (match tag with
    | some t => bytes2 t.toNat
    | none => [0xFF, 0xFF]) ++
  (match item with
    | some n => bytes3 n
    | none => [0xFF, 0xFF, 0xFF])

/-- The pending form: the capture number, or 0xFF for an empty position, the item and its presence (R175). -/
def pendingForm (capture : Option CaptureNumber) (item : Option Nat) : List Byte :=
  (match capture with
    | some n => bytes1 n.toNat
    | none => [0xFF]) ++
  (match item with
    | some n => bytes3 n ++ [1]
    | none => [0, 0, 0, 0])

/-- The accumulator form (section 11.3). -/
def accumulatorForm (a : Accumulator) : List Byte :=
  signedBytes2 a.value ++ signedBytes1 a.excursion ++ bytes1 (flagCode a.overFlag + 2 * flagCode a.aboveFlag)

/-! ## Notices (section 11.5) -/

/-- The kind code of a notice. -/
def Notice.kind : Notice → Nat
  | .line _ _ _ => 1
  | .fault _ _ => 2
  | .overflow _ _ => 3
  | .crateFull _ _ _ => 4
  | .jam _ _ => 5
  | .channel _ _ _ _ => 6
  | .checkDone _ _ => 7
  | .balanceHigh _ _ _ _ _ => 8

/-- The subject byte of a notice. -/
def Notice.subject : Notice → Nat
  | .line _ _ _ | .fault _ _ | .overflow _ _ => 0
  | .crateFull k _ _ | .jam k _ => k.val + 1
  | .channel c _ _ _ | .checkDone c _ => c.val + 1
  | .balanceHigh c f _ _ _ => (c.val + 1) * 16 + (f.val + 1)

/-- The detail of a notice, from byte 2. -/
def Notice.detail : Notice → List Byte
  | .line old new cause =>
      (match old with
        | some st => bytes1 st.code
        | none => [0xFF]) ++ bytes1 new.code ++ bytes1 cause.code
  | .fault debt st => bytes1 debt ++ bytes1 st.code
  | .overflow index count => bytes1 index ++ bytes4 count.toNat
  | .crateFull _ current completed => bytes1 current ++ bytes2 completed.toNat
  | .jam _ unconfirmed => bytes2 unconfirmed.toNat
  | .channel _ event trip release => bytes1 event.code ++ bytes1 trip ++ bytes1 release
  | .checkDone _ verdict => bytes1 verdict.code
  | .balanceHigh _ _ value excursion threshold =>
      signedBytes2 value ++ signedBytes1 excursion ++ bytes2 threshold

/-- Whether two notices have the same kind and subject (R177). -/
def Notice.samePair (m n : Notice) : Bool := m.kind == n.kind && m.subject == n.subject

/-- The frame of a notice to a station (section 11.1). -/
def noticeFrame (a : StationId) (n : Notice) : CanFrame where
  identifier := BitVec.ofNat 11 (0x660 + a.val)
  data := padTo 8 (BitVec.ofNat 8 n.kind :: BitVec.ofNat 8 n.subject :: n.detail)

/-! ## Identification records (sections 2.1 and 2.2) -/

/-- The mark of an identification record (section 2.1). -/
def recordMark : Byte := 0xC3

/-- The capture message of a capture number (section 2.1). -/
def captureMessage (n : CaptureNumber) : Byte × Byte := (0x3C, BitVec.ofNat 8 n.toNat)

/-- The verdict on a complete record: discarded as BAD CHECK, or accepted with its capture number and
its fields made safe (R20, R21). -/
def checkRecord (b : List Byte) : Option (CaptureNumber × Identity) :=
  let at_ (i : Nat) : Byte := b.getD i 0
  if at_ 5 = at_ 1 + at_ 2 + at_ 3 + at_ 4 ∧ (at_ 1).toNat < 16 then
    some (BitVec.ofNat 4 (at_ 1).toNat, madeSafe (at_ 2) (at_ 3) (at_ 4))
  else none

end Sys2Proof.Machine
end

