-- ==== Sys2Proof/Machine/Flags.lean ====
section
/-! DEFINITION. The conditions the manual computes from the state: line conditions, acceptance, jams
owed, references driven, windows, and the outputs of the governor and the Identity Port. -/

namespace Sys2Proof.Machine

open Sys2Proof

/-! ## Line (chapter 10) -/

/-- Whether the line state is RUN or DRAIN. -/
def LineState.moving : LineState → Bool
  | .run | .drain => true
  | .standby | .halt _ => false

/-- The HALT that remembers the state it was entered from; STANDBY and HALT stay (R162, R163). -/
def LineState.halted : LineState → LineState
  | .run => .halt .run
  | .drain => .halt .drain
  | .standby => .standby
  | .halt r => .halt r

/-! ## Air Arbiter (chapter 5) -/

/-- Whether outlet `k`'s diverter is energised (R78). -/
def energised (k : OutletId) (s : State) : Bool := s.air.pulses[k].isSome

/-- The energised count (R78). -/
def energisedCount (s : State) : Nat := (s.air.pulses.toList.filter Option.isSome).length

/-- The number of requests in the request set (R79). -/
def requestCount (s : State) : Nat := (s.air.requests.toList.filter Option.isSome).length

/-- The conditions of a grant (R80). -/
def grantAllowed (s : State) : Bool :=
  decide (energisedCount s < s.air.slots) && decide (0 < requestCount s) && !s.air.airWait &&
    s.line.state.moving && !s.line.estop

/-- The outlets in falling priority from the one below the mark, ending with the mark (R81). -/
def orderFrom (mark : OutletId) : List OutletId :=
  [1, 2, 3, 4, 5, 6, 7, 8, 9, 10, 11, 12].map fun i => ⟨(mark.val + 12 - i) % 12, Nat.mod_lt _ (by decide)⟩

/-- The order of the present grant scheme; FIXED is the order of the mark at outlet 1 (R81). -/
def grantOrder (s : State) : List OutletId :=
  match s.air.scheme with
  | .fixed => orderFrom 0
  | .rotating => orderFrom s.air.rotationMark

/-- The outlet whose request is the first of the set in the order of the grant scheme (R80). -/
def firstRequest (s : State) : Option OutletId := (grantOrder s).find? fun k => s.air.requests[k].isSome

/-! ## Gate inputs (chapter 1) -/

/-- The filter record of a gate input (R13). -/
def recordAt (input : GateInput) (b : Sensing) : FilterRecord :=
  match input with
  | .ge => b.ge
  | .chuteGate k => b.chuteGates[k]
  | .crateSensor k => b.crateSensors[k]
  | .readyLine k => b.readyLines[k]

/-- The filtered state of a gate input as every other block reads it. An edge and the change of level it reports
reach their receiver together (R15): while an edge of the input waits for its receiver, the level is still the one
before the edge (log 22). -/
def filteredState (input : GateInput) (s : State) : Bool :=
  match s.sensing.edges.find? fun e => e.input == input with
  | some e => !e.rising
  | none => (recordAt input s.sensing).active

/-! ## Outlet Controller (chapter 6) -/

/-- The conditions of acceptance but for the ready line's level, which is given (R96). -/
def acceptingWith (ready : Bool) (o : Outlet) : Bool :=
  o.state == .opened && !o.masked && decide (o.queue.length < 4) &&
    (match o.mode with
      | .crate => true
      | .handoff => ready)

/-- Whether outlet `k` is accepting (R96). -/
def accepting (k : OutletId) (s : State) : Bool := acceptingWith (filteredState (.readyLine k) s) s.outlets[k]

/-- Whether a jam is owed: the count at 3 in FULL, SWAP or HELD (R102). -/
def jamOwed (o : Outlet) : Bool :=
  o.consecutive == 3 && (o.state == .full || o.state == .swap || o.state == .held)

/-- Whether the crate is in place, `sensor` being the filtered state of the crate sensor (R103). -/
def crateInPlace (sensor : Bool) (o : Outlet) : Bool :=
  match o.state with
  | .opened | .full | .held => true
  | .jammed => sensor
  | .swap | .unconfigured => false

/-! ## Track Unit (chapter 3) -/

/-- The offset of outlet `k`. A record aims only at an outlet whose offset is present (R40, R62), so the
value read for an absent one is never used. -/
def offsetOf (k : OutletId) (s : State) : Nat := s.timing[k].offset.getD 0

/-- The classification of record `r` against its window at outlet `k` (R43). -/
def classify (k : OutletId) (r : TrackRecord) (s : State) : Window :=
  windowOf (signedDiff s.sensing.position (downstreamBy r.centre (offsetOf k s)))
    (halfFootprint r.footprint) s.timing[k].lead

/-- The oldest REQUESTING record aimed at outlet `k` (R50). -/
def oldestRequesting (k : OutletId) (s : State) : Option TrackRecord :=
  s.track.records.find? fun r => r.state == .requesting && r.target == some k

/-- The record with a tag. -/
def recordOf (tag : SequenceTag) (s : State) : Option TrackRecord := s.track.records.find? fun r => r.tag == tag

/-- Whether a record's centre has passed the belt end (R53). -/
def pastBeltEnd (r : TrackRecord) (s : State) : Bool :=
  match s.geometry.beltEnd with
  | none => false
  | some e => decide ((e : Int) ≤ signedDiff s.sensing.position r.centre)

/-! ## Level Supervisor (chapter 8) -/

/-- The threshold code the channel drives (R129). -/
def Channel.reference (ch : Channel) : Nat :=
  match ch.state with
  | .off => 0
  | .settling | .samplingFirst => ch.trip
  | .watching => if ch.detected then ch.release else ch.trip

/-- Whether a comparator's answer shows the channel's condition: for AIR an input not above the
reference, for the others an input above it (R128). -/
def showsCondition (c : ChannelId) (above : Bool) : Bool := if c = airChannel then !above else above

/-- The owner station of a channel (R128). -/
def channelOwner (c : ChannelId) (s : State) : StationId :=
  match probedOutlet c with
  | some k => s.outlets[k].owner
  | none => 0

/-! ## Outputs and tests of the Line Controller -/

/-- The governor's condition for the present inputs (R168). -/
def governorNow (s : State) : Governor :=
  if !s.line.state.moving || s.line.estop || s.line.resCopy ||
      (decide (48 ≤ s.track.records.length) && decide (0 < requestCount s)) then .stopped
  else if decide (s.line.slowMark ≤ s.track.records.length) || s.line.airCopy ||
      decide (4 ≤ s.admission.entries.length) then .slow
  else .run

/-- The speed reference of a governor condition (R168). -/
def speedReferenceOf (l : Line) : Governor → Nat
  | .stopped => 0
  | .slow => l.slowCode
  | .run => l.runCode

/-- The level of IDENT-READY for the present inputs (R22). -/
def identReadyNow (s : State) : Bool := s.line.state.moving && decide (s.admission.entries.length < 4)

/-- Whether every confirm queue is empty. -/
def queuesEmpty (s : State) : Bool := s.outlets.toList.all fun o => o.queue.isEmpty

/-- The DRAIN completion test (R161). -/
def drainComplete (s : State) : Bool :=
  s.line.state == .drain && s.admission.entries.isEmpty && s.track.records.isEmpty && queuesEmpty s

end Sys2Proof.Machine
end

