-- ==== Sys2Proof/Machine/Ops.lean ====
section
/-! DEFINITION. The operations that several commands share: notices and responses, outputs, requests to
the Air Arbiter and grants, fallback and window evaluation, cuts, line moves, and the states of crates. -/

namespace Sys2Proof.Machine

open Sys2Proof

/-! ## Outcome and order -/

/-- The outcome of every meaning: a next state. -/
abbrev Result := Host.Outcome State Fault Refusal

/-- `first` then `second`, or the other way round. -/
def inOrder (swapped : Bool) (first second : State → State) (s : State) : State :=
  if swapped then first (second s) else second (first s)

/-- Two blocks' handlings of one event, in an order the manual leaves open: a free value decides (log 3). -/
def inEitherOrder (first second : State → State) (s : State) : State :=
  inOrder (Config.otherOrder s.draws) first second (s.onDraws (· + 1))

/-! ## Notices (R173, R176, R177) -/

/-- The stations a notice is addressed to: the owner of its subject, and station 0 (R176). -/
def addressees (n : Notice) (s : State) : List StationId :=
  let owner : StationId :=
    match n with
    | .line _ _ _ | .fault _ _ | .overflow _ _ => 0
    | .crateFull k _ _ | .jam k _ => s.outlets[k].owner
    | .channel c _ _ _ | .checkDone c _ => channelOwner c s
    | .balanceHigh c _ _ _ _ => concessionStation c
  if owner = 0 then [0] else [owner, 0]

/-- Whether a mask enables a notice's kind: bit k − 1 for kind k (R176). -/
def noticeEnabled (mask : Byte) (n : Notice) : Bool := mask.getLsbD (n.kind - 1)

/-- Enter a notice in a pending notice set (R177). -/
def enterNotice (n : Notice) (st : StationLink) : StationLink :=
  if st.notices.any n.samePair then st
  else if st.notices.length < 24 then { st with notices := st.notices ++ [n] }
  else { st with lost := true }

/-- Place a frame at the tail of the transmit queue. -/
def placeFrame (f : CanFrame) (s : State) : State :=
  s.onLink fun l => { l with transmitQueue := l.transmitQueue ++ [f] }

/-- Place a notice frame if a place is free, or count NOTICE FRAMES SKIPPED (R173). Responses are placed
at their taking, so no reserved place is outstanding when a notice is raised. -/
def placeNoticeFrame (f : CanFrame) (s : State) : State :=
  if s.link.transmitQueue.length < 16 then placeFrame f s
  else s.onLink fun l => { l with framesSkipped := l.framesSkipped + 1 }

/-- Handle a notice for one station addressed (R176). -/
def noticeTo (n : Notice) (s : State) (a : StationId) : State :=
  if noticeEnabled s.link.stations[a].mask n then
    placeNoticeFrame (noticeFrame a n) (s.onStation a (enterNotice n))
  else s

/-- Raise a notice (R176). -/
def raiseNotice (n : Notice) (s : State) : State := (addressees n s).foldl (noticeTo n) s

/-! ## Requests and responses (R171, R172) -/

/-- The free places of the transmit queue (R171, R173). -/
def freePlaces (s : State) : Nat := 16 - s.link.transmitQueue.length

/-- Place the response to a request. -/
def respond (q : Request) (status : Status) (results : List Byte) (s : State) : State :=
  placeFrame (responseFrame q status results) s

/-- The oldest request, if it can be taken with `places` free places and satisfies `isFor`, and the state
with it taken from the receive queue (R171). -/
def oldestRequest (isFor : Request → Bool) (places : Nat) (s : State) : Option (Request × State) :=
  match s.link.receiveQueue with
  | [] => none
  | q :: rest =>
    if isFor q && decide (places ≤ freePlaces s) then
      some (q, s.onLink fun l => { l with receiveQueue := rest })
    else none

/-- Whether a request carries a code: its data hold a code and a tag, and the code is `code` (R172). -/
def Request.hasCode (code : Nat) (q : Request) : Bool := decide (2 ≤ q.data.length) && q.byte 0 == code

/-- The taking of a request of a code that needs `places` free places: its length and, where `linkOnly`, its
sender are checked, and `handle` makes the owning block's checks and carries it out (R172). When no such
request can be taken, no taking occurs and nothing changes (log 2). -/
def takeRequestWith (places code length : Nat) (linkOnly : Bool) (handle : Request → State → State) (s : State) :
    State :=
  match oldestRequest (Request.hasCode code) places s with
  | none => s
  | some (q, s1) =>
    if q.data.length ≠ length then respond q .badLength [] s1
    else if linkOnly && q.station != 0 then respond q .notYours [] s1
    else handle q s1

/-- The taking of a request other than POLL NOTICES, which needs one free place (R171). -/
def takeRequest (code length : Nat) (linkOnly : Bool) (handle : Request → State → State) (s : State) : State :=
  takeRequestWith 1 code length linkOnly handle s

/-! ## Outputs of the Line Controller and the Identity Port (R22, R168) -/

/-- Drive the speed reference, the governor condition and IDENT-READY from the present inputs. Done at the
end of every event that can change an input, it leaves what re-evaluation at each change leaves. -/
def driveOutputs (s : State) : State :=
  let g := governorNow s
  (s.onLine fun l => { l with speedRef := speedReferenceOf l g, governor := g }).onAdmission
    fun a => { a with identReady := identReadyNow s }

/-- Move the line to a state and raise the LINE notice (R167). -/
def moveLine (new : LineState) (cause : LineCause) (s : State) : State :=
  raiseNotice (.line (some s.line.state) new cause) (s.onLine fun l => { l with state := new })

/-! ## Presenting and withdrawing requests (R50, R51, R79) -/

/-- Set or clear outlet `k`'s request in the request set (R79). -/
def setRequest (k : OutletId) (r : Option SequenceTag) (s : State) : State :=
  s.onAir fun a => { a with requests := a.requests.set k r }

/-- Reconsider which request outlet `k` presents, and whether one was presented by it (R50). -/
def reconsider (k : OutletId) (s : State) : State × Bool :=
  if energised k s then (s, false)
  else
    match oldestRequesting k s with
    | none => (setRequest k none s, false)
    | some r =>
      if s.air.requests[k] = some r.tag then (s, false) else (setRequest k (some r.tag) s, true)

/-- Reconsider outlet `k`'s request without an examination: within a grant, whose examination tests its
conditions again itself (R80, log 4), and after a cut, when none can be granted (R80, R89). -/
def presentQuietly (k : OutletId) (s : State) : State := (reconsider k s).1

/-- Withdraw outlet `k`'s request if it speaks for `tag` (R51). -/
def withdraw (k : OutletId) (tag : SequenceTag) (s : State) : State :=
  if s.air.requests[k] = some tag then setRequest k none s else s

/-! ## Fallback and loss of acceptance (R47 to R49) -/

/-- The list with its first record of a tag changed. -/
def changeFirst (tag : SequenceTag) (f : TrackRecord → TrackRecord) : List TrackRecord → List TrackRecord
  | [] => []
  | r :: rest => if r.tag = tag then f r :: rest else r :: changeFirst tag f rest

/-- Change the record with a tag. -/
def updateRecord (tag : SequenceTag) (f : TrackRecord → TrackRecord) (s : State) : State :=
  s.onTrack fun t => { t with records := changeFirst tag f t.records }

/-- Remove the record with a tag from the Belt Track. -/
def removeRecord (tag : SequenceTag) (s : State) : State :=
  s.onTrack fun t => { t with records := t.records.eraseP fun r => r.tag == tag }

/-- The record sent to residue by fallback (R48). -/
def sentToResidue (r : TrackRecord) : TrackRecord := { r with target := none, state := .toResidue, fallback := true }

/-- The record after fallback: retargeted to its alternate and classified there at once, or sent to
residue (R48, R49). -/
def fallbackRecord (r : TrackRecord) (s : State) : TrackRecord :=
  match r.alternate with
  | none => sentToResidue r
  | some j =>
    if r.fallback || s.outlets[j].state == .unconfigured then sentToResidue r
    else
      let retargeted : TrackRecord := { r with target := some j, state := .waiting, fallback := true }
      match classify j r s with
      | .passed => sentToResidue r
      | .notYet => retargeted
      | .inWindow => if accepting j s then { retargeted with state := .requesting } else sentToResidue r

/-- Have the target of a REQUESTING record reconsider its request. -/
def presentTarget (pres : OutletId → State → State) (r : TrackRecord) (s : State) : State :=
  match r.state, r.target with
  | .requesting, some j => pres j s
  | _, _ => s

/-- Turn one record away from outlet `k` if it is REQUESTING there (R47). -/
def turnAway (pres : OutletId → State → State) (k : OutletId) (s : State) (tag : SequenceTag) : State :=
  match recordOf tag s with
  | none => s
  | some r =>
    if r.state = .requesting ∧ r.target = some k then
      let r' := fallbackRecord r s
      presentTarget pres r' (updateRecord tag (fun _ => r') (withdraw k tag s))
    else s

/-- A loss of acceptance for outlet `k`: every REQUESTING record aimed at it takes fallback, from head to
tail (R47). -/
def lossOfAcceptance (pres : OutletId → State → State) (k : OutletId) (s : State) : State :=
  ((s.track.records.filter fun r => r.state == .requesting && r.target == some k).map (·.tag)).foldl
    (turnAway pres k) s

/-- Report a loss of acceptance if outlet `k` was accepting before the event and is not after it (R96). -/
def reportLoss (pres : OutletId → State → State) (k : OutletId) (before : Bool) (s : State) : State :=
  if before && !accepting k s then lossOfAcceptance pres k s else s

/-! ## Grants (R80, R83) -/

/-- The grant for outlet `k`: the six steps of R83. A request always speaks for a record on the track
(R50, R51); one that did not would be dropped. -/
def grant (k : OutletId) (s : State) : State :=
  match s.air.requests[k] with
  | none => s
  | some tag =>
    match recordOf tag s with
    | none => setRequest k none s
    | some r =>
      let t := s.timing[k]
      let p := pulseOf (halfFootprint r.footprint) s.sensing.speed t.extension t.minPulse t.maxPulse
      let s1 := (setRequest k none s).onTiming k fun t => { t with lastPulse := p }
      let s2 := s1.onAir fun a => { a with pulses := a.pulses.set k (some { tag := tag, pulseEnd := s.now + p.duration }) }
      let s3 := (removeRecord tag s2).onOutlet k fun o =>
        { o with queue := o.queue ++ [{ tag := tag, owner := r.owner, wareClass := r.wareClass, phase := .pulsing }] }
      let s4 := reportLoss presentQuietly k (accepting k s) s3
      s4.onAir fun a =>
        { a with
          rotationMark := match a.scheme with
            | .fixed => a.rotationMark
            | .rotating => k
          grants := a.grants + 1 }

/-- One grant, if its conditions hold (R80). -/
def grantOne (s : State) : State :=
  if grantAllowed s then
    match firstRequest s with
    | none => s
    | some k => grant k s
  else s

/-- An examination for a grant: the conditions are tested again after a grant, and an examination makes at
most two (R80). -/
def examine (s : State) : State := grantOne (grantOne s)

/-- Reconsider outlet `k`'s request; a presentation is an event of examination (R50, R79, R80). -/
def present (k : OutletId) (s : State) : State :=
  let (s', presented) := reconsider k s
  if presented then examine s' else s'

/-! ## Window evaluation (R42 to R46) and retirement (R53) -/

/-- Fallback of record `r` from outlet `k` in an evaluation: a request of it is withdrawn, and the outlets
it leaves and reaches reconsider theirs (R44, R46, R49 to R51). That the outlet it leaves does so first, which
decides who gets a last free slot, is the model's choice (log 23). -/
def takeFallback (k : OutletId) (r : TrackRecord) (s : State) : State :=
  let r' := fallbackRecord r s
  let s1 := updateRecord r.tag (fun _ => r') (withdraw k r.tag s)
  presentTarget present r' (if r.state = .requesting then present k s1 else s1)

/-- Evaluate the record with a tag against the window of its target (R43, R44, R46). -/
def evaluateRecord (s : State) (tag : SequenceTag) : State :=
  match recordOf tag s with
  | none => s
  | some r =>
    match r.target with
    | none => s
    | some k =>
      match r.state, classify k r s with
      | .toResidue, _ => s
      | .waiting, .notYet => s
      | .waiting, .inWindow =>
        if accepting k s then present k (updateRecord tag (fun r => { r with state := .requesting }) s)
        else takeFallback k r s
      | .waiting, .passed => takeFallback k r s
      | .requesting, .passed => takeFallback k r s
      | .requesting, .notYet => s
      | .requesting, .inWindow => s

/-- The classification pass over the Belt Track, from head to tail (R42). -/
def evaluateTrack (s : State) : State := (s.track.records.map (·.tag)).foldl evaluateRecord s

/-- Retire the head of the track and count its outcome (R53). -/
def retireHead (r : TrackRecord) (rest : List TrackRecord) (s : State) : State :=
  let s1 := s.onTrack fun t =>
    if r.state = .toResidue ∧ r.fallback = false then { t with records := rest, residue := t.residue + 1 }
    else { t with records := rest, missed := t.missed + 1 }
  match r.state, r.target with
  | .requesting, some k => present k (withdraw k r.tag s1)
  | _, _ => s1

/-- Retire heads while the head meets the test, at most `n` of them (R53). -/
def retireHeads : Nat → State → State
  | 0, s => s
  | n + 1, s =>
    match s.track.records with
    | [] => s
    | r :: rest => if pastBeltEnd r s then retireHeads n (retireHead r rest s) else s

/-- The retirements of an advance. -/
def retireAll (s : State) : State := retireHeads s.track.records.length s

/-! ## Pulse ends and cuts (R85, R89, R98) -/

/-- The PULSING entry of a tag becomes AWAITING, its deadline the outlet's confirm window from now (R98). -/
def awaitConfirm (k : OutletId) (tag : SequenceTag) (s : State) : State :=
  s.onOutlet k fun o =>
    { o with
      queue := o.queue.map fun e =>
        if e.tag = tag ∧ e.phase = .pulsing then { e with phase := .awaiting (s.now + o.confirmWindow) } else e }

/-- De-energise outlet `k`'s diverter and clear its pulse record (R85, R89). -/
def deEnergise (k : OutletId) (s : State) : State := s.onAir fun a => { a with pulses := a.pulses.set k none }

/-- Cut the pulse of outlet `k`, if one runs (R89). -/
def cutPulse (s : State) (k : OutletId) : State :=
  match s.air.pulses[k] with
  | none => s
  | some p =>
    presentQuietly k (awaitConfirm k p.tag
      ((deEnergise k s).onAir fun a => { a with pulsesCut := a.pulsesCut + 1 }))

/-- A cut: every energised diverter is de-energised at once (R89). -/
def cutPulses (s : State) : State := allOutlets.foldl cutPulse s

/-! ## Leaving RUN and DRAIN (R161 to R166) -/

/-- Move the line to HALT if it is in RUN or DRAIN, recording the state it left (R162, R163). -/
def haltLine (cause : LineCause) (s : State) : State :=
  if s.line.state.moving then moveLine s.line.state.halted cause s else s

/-- The REVERSE condition (R5, R163): the FAULT notice in every state; in RUN and DRAIN the halt and the cut. -/
def raiseReverse (s : State) : State :=
  let s1 := raiseNotice (.fault s.sensing.debt s.line.state) s
  if s.line.state.moving then cutPulses (haltLine .reverse s1) else s1

/-- The DRAIN completion test and, when it is met, the move to STANDBY and the cut (R161). -/
def testDrain (s : State) : State :=
  if drainComplete s then cutPulses (moveLine .standby .drainDone s) else s

/-- The end of an event that can change a count the Line Controller observes (R161, R168). -/
def settleLine (s : State) : State := driveOutputs (testDrain s)

/-- Discard every item the part follows: records and confirm-queue entries as ABANDONED, pending entries
as PENDING ABANDONED, and every request and queued capture message (R17, R34, R55, R57, R90, R95). -/
def discardItems (s : State) : State :=
  let queued := (s.outlets.toList.map fun o => o.queue.length).sum
  let s1 := s.onTrack fun t =>
    { t with records := [], abandoned := t.abandoned + BitVec.ofNat 32 (t.records.length + queued) }
  let s2 := s1.onOutlets fun os => Vector.ofFn fun k => { os[k] with queue := [] }
  let s3 := s2.onAdmission fun a =>
    { a with
      entries := []
      captureQueue := []
      pendingAbandoned := a.pendingAbandoned + BitVec.ofNat 32 a.entries.length }
  s3.onAir fun a => { a with requests := Vector.replicate 12 none }

/-! ## Crate states (R102, R104) -/

/-- Outlet `k` enters FULL: CRATES COMPLETED, the CRATE FULL notice, and the loss if it was accepting
before the event (R104). -/
def enterFull (k : OutletId) (before : Bool) (s : State) : State :=
  let s1 := s.onOutlet k fun o => { o with state := .full, cratesCompleted := o.cratesCompleted + 1 }
  reportLoss present k before
    (raiseNotice (.crateFull k s1.outlets[k].currentCount s1.outlets[k].cratesCompleted) s1)

/-- Outlet `k` enters JAMMED: the JAM notice, and the loss if it was accepting before the event (R102). -/
def enterJam (k : OutletId) (before : Bool) (s : State) : State :=
  let s1 := s.onOutlet k fun o => { o with state := .jammed }
  reportLoss present k before (raiseNotice (.jam k s1.outlets[k].unconfirmed) s1)

/-- A move of outlet `k` to OPEN, or to JAMMED if a jam is owed (R102). -/
def openOrJam (k : OutletId) (s : State) : State :=
  if s.outlets[k].consecutive = 3 then enterJam k (accepting k s) s
  else s.onOutlet k fun o => { o with state := .opened }

/-! ## Filtered edges (R15) -/

/-- The edge taken by its receiver: the oldest reported edge of the input not yet taken, if it has the
direction asked for, and the state without it. -/
def takeEdge (input : GateInput) (rising : Bool) (s : State) : Option (FilteredEdge × State) :=
  match s.sensing.edges.find? fun e => e.input == input with
  | none => none
  | some e =>
    if e.rising = rising then
      some (e, s.onSensing fun b => { b with edges := b.edges.erase e })
    else none

end Sys2Proof.Machine
end

