-- ==== Sys2Proof/Machine/AirArbiter.lean ====
section
/-! DEFINITION. The commands of the Air Arbiter (chapter 5): the end of a pulse, and SET AIR. -/

namespace Sys2Proof.Machine

open Sys2Proof

/-- The end of outlet `k`'s pulse for a tag: the diverter is de-energised, the entry awaits confirmation,
the freed slot is offered to the requests in the set, and then outlet `k` presents (R85, R98). -/
def endPulse (k : OutletId) (tag : SequenceTag) (s : State) : State :=
  present k (examine (awaitConfirm k tag (deEnergise k s)))

/-- PULSE_END: it occurs while outlet `k`'s diverter is energised and its pulse end has come (R85). -/
def execPulseEnd (k : OutletId) (s : State) : Result :=
  match s.air.pulses[k] with
  | none => .next s
  | some p => if p.pulseEnd ≤ s.now then .next (settleLine (endPulse k p.tag s)) else .next s

/-- The settings of a taken SET AIR; the mark goes to outlet 1 when the scheme changes (R82). -/
def writeAir (slots : Nat) (scheme : GrantScheme) (s : State) : State :=
  s.onAir fun a =>
    { a with
      slots := slots
      scheme := scheme
      rotationMark := if a.scheme = scheme then a.rotationMark else 0 }

/-- SET AIR (R82): an examination follows when A rises from 1 to 2. -/
def handleSetAir (q : Request) (s : State) : State :=
  let slots := q.byte 2
  match GrantScheme.ofCode (q.byte 3) with
  | none => respond q .badValue [] s
  | some scheme =>
    if slots = 1 ∨ slots = 2 then
      let s1 := writeAir slots scheme (respond q .done [] s)
      if s.air.slots < slots then settleLine (examine s1) else s1
    else respond q .badValue [] s

/-- SET AIR. -/
def execSetAir (s : State) : Result := .next (takeRequest 0x08 4 true handleSetAir s)

end Sys2Proof.Machine
end

