-- ==== Sys2Proof/Machine/Balances.lean ====
section
/-! DEFINITION. The Balance Unit (chapter 9): adds, the above flag, and the requests to an accumulator. -/

namespace Sys2Proof.Machine

open Sys2Proof

/-! ## Adds (R146, R147) -/

/-- An add of a signed amount to an accumulator in a balance mode, before the above flag is evaluated (R146, R147). -/
def addAmount (mode : BalanceMode) (amount : Int) (a : Accumulator) : Accumulator :=
  let sum := a.value + amount
  if 32767 < sum then
    match mode with
    | .saturate => { a with value := 32767, overFlag := true }
    | .wrap => { a with value := sum - 65536, excursion := min (a.excursion + 1) 31, overFlag := true }
  else if sum < -32768 then
    match mode with
    | .saturate => { a with value := -32768, overFlag := true }
    | .wrap => { a with value := sum + 65536, excursion := max (a.excursion - 1) (-32), overFlag := true }
  else { a with value := sum }

/-- The accumulator with its above flag evaluated against a threshold (R152). -/
def evaluateAbove (threshold : Nat) (a : Accumulator) : Accumulator :=
  { a with aboveFlag := decide ((threshold : Int) < a.value) }

/-- The accumulator of concession `c` and family `f`. -/
def accountOf (c f : Fin 6) (s : State) : Accumulator := s.balances[c].accounts[f]

/-- The threshold of concession `c` and family `f`. -/
def thresholdOf (c f : Fin 6) (s : State) : Nat := s.balances[c].thresholds[f]

/-- Write an accumulator. -/
def writeAccount (c f : Fin 6) (a : Accumulator) (s : State) : State :=
  s.onBalance c fun b => { b with accounts := b.accounts.set f a }

/-- Raise BALANCE HIGH for the accumulator as it now stands if its above flag was clear before and is set (R152). -/
def noticeBalance (c f : Fin 6) (before : Bool) (s : State) : State :=
  let a := accountOf c f s
  if a.aboveFlag && !before then
    raiseNotice (.balanceHigh c f a.value a.excursion (thresholdOf c f s)) s
  else s

/-- Change the value of an accumulator and evaluate its above flag, with the notice of R152. -/
def changeAccount (c f : Fin 6) (change : Accumulator → Accumulator) (s : State) : State :=
  noticeBalance c f (accountOf c f s).aboveFlag
    (writeAccount c f (evaluateAbove (thresholdOf c f s) (change (accountOf c f s))) s)

/-- The return of an item at admission: an add of −1 for its owner and family, none for an item without
either (R32, R148). -/
def returnItem (owner : StationId) (wareClass : WareClass) (s : State) : State :=
  match sixOf owner.val, wareClass.family with
  | some c, some f => changeAccount c f (addAmount s.balances[c].mode (-1)) s
  | _, _ => s

/-! ## Requests (R149) -/

/-- Whether a station is station 0 or the concession's own. -/
def mayOperateBalance (c : Fin 6) (a : StationId) : Bool := a == 0 || a == concessionStation c

/-- The checks of subject and sender of a request to an accumulator (R149), `allowed` telling who may send it. -/
def withAccount (q : Request) (allowed : Fin 6 → StationId → Bool) (handle : Fin 6 → Fin 6 → State → State)
    (s : State) : State :=
  match sixOf (q.byte 2), sixOf (q.byte 3) with
  | some c, some f => if allowed c q.station then handle c f s else respond q .notYours [] s
  | _, _ => respond q .badValue [] s

/-- A taken change of value: the response in the accumulator form, then the change with its notice (R149, R173). -/
def takeChange (q : Request) (c f : Fin 6) (change : Accumulator → Accumulator) (s : State) : State :=
  changeAccount c f change
    (respond q .done (accumulatorForm (evaluateAbove (thresholdOf c f s) (change (accountOf c f s)))) s)

/-- ISSUE (R150). -/
def handleIssue (q : Request) (s : State) : State :=
  withAccount q mayOperateBalance (fun c f s =>
    let amount := q.word 4
    if 1 ≤ amount ∧ amount ≤ 4095 then takeChange q c f (addAmount s.balances[c].mode amount) s
    else respond q .badValue [] s) s

/-- ADJUST (R150). -/
def handleAdjust (q : Request) (s : State) : State :=
  withAccount q mayOperateBalance (fun c f s =>
    let amount := q.signedWord 4
    if -4095 ≤ amount ∧ amount ≤ 4095 then takeChange q c f (addAmount s.balances[c].mode amount) s
    else respond q .badValue [] s) s

/-- SET VALUE (R151): every 16-bit two's complement value is in range. -/
def handleSetValue (q : Request) (s : State) : State :=
  withAccount q (fun _ a => a == 0) (fun c f s =>
    takeChange q c f (fun a => { a with value := q.signedWord 4, excursion := 0 }) s) s

/-- SET THRESHOLD (R153). -/
def handleSetThreshold (q : Request) (s : State) : State :=
  withAccount q mayOperateBalance (fun c f s =>
    let threshold := q.word 4
    if threshold ≤ 32767 then
      takeChange q c f id (s.onBalance c fun b => { b with thresholds := b.thresholds.set f threshold })
    else respond q .badValue [] s) s

/-- CLEAR FLAGS (R155). -/
def handleClearFlags (q : Request) (s : State) : State :=
  withAccount q mayOperateBalance (fun c f s =>
    let cleared := { accountOf c f s with overFlag := false }
    writeAccount c f cleared (respond q .done (accumulatorForm cleared) s)) s

/-- SET BALANCE MODE (R154). -/
def handleSetBalanceMode (q : Request) (s : State) : State :=
  match sixOf (q.byte 2) with
  | none => respond q .badValue [] s
  | some c =>
    if mayOperateBalance c q.station then
      match BalanceMode.ofCode (q.byte 3) with
      | none => respond q .badValue [] s
      | some mode => (respond q .done (bytes1 mode.code) s).onBalance c fun b => { b with mode := mode }
    else respond q .notYours [] s

/-! ## The commands -/

/-- ISSUE. -/
def execIssue (s : State) : Result := .next (takeRequest 0x28 6 false handleIssue s)

/-- ADJUST. -/
def execAdjust (s : State) : Result := .next (takeRequest 0x29 6 false handleAdjust s)

/-- SET VALUE. -/
def execSetValue (s : State) : Result := .next (takeRequest 0x2A 6 false handleSetValue s)

/-- SET BALANCE MODE. -/
def execSetBalanceMode (s : State) : Result := .next (takeRequest 0x2B 4 false handleSetBalanceMode s)

/-- SET THRESHOLD. -/
def execSetThreshold (s : State) : Result := .next (takeRequest 0x2C 6 false handleSetThreshold s)

/-- CLEAR FLAGS. -/
def execClearFlags (s : State) : Result := .next (takeRequest 0x2D 4 false handleClearFlags s)

end Sys2Proof.Machine
end

