-- ==== Sys2Proof/Machine/Admission.lean ====
section
/-! DEFINITION. The Admission Unit (chapter 2): the entry gate's edges, the Identity Port, the matching of
records, and admission to the Belt Track (R39, R40). -/

namespace Sys2Proof.Machine

open Sys2Proof

/-! ## Admission (R27 to R32, R39, R40) -/

/-- The moment an overflow occurrence reaches the Link Interface: the arm is tested (R179). -/
def overflowOccurrence (counterIndex : Nat) (count : DeviceCount) (s : State) : State :=
  if s.link.overflowArm then
    raiseNotice (.overflow counterIndex count) (s.onLink fun l => { l with overflowArm := false })
  else s

/-- Hand an UNTRACKED or OVERFLOW on as an overflow occurrence, in RUN only (R35). -/
def handOnOverflow (counterIndex : Nat) (count : DeviceCount) (s : State) : State :=
  if s.line.state = .run then overflowOccurrence counterIndex count s else s

/-- The identity and the footprint of a let-go entry before R30: its own record, or UNKNOWN (R28, R29); its
Pt − Pl, or B − Pl while Pt is absent. -/
def letGoFootprint (e : PendingEntry) (s : State) : Nat :=
  (signedDiff (e.trailing.getD s.sensing.position) e.leading).toNat

/-- Whether the head is complete (R28). -/
def PendingEntry.complete (e : PendingEntry) : Bool := e.trailing.isSome && e.record.isSome

/-- Whether the head's identity deadline is reached (R29). -/
def deadlineReached (e : PendingEntry) (s : State) : Bool :=
  decide ((s.geometry.identityOffset : Int) ≤ signedDiff s.sensing.position e.leading)

/-- The route of an owner row and a class (R40, R118). -/
def routeOf (row : StationId) (wareClass : WareClass) (s : State) : RouteEntry :=
  s.routes[row].entries[wareClass.code]

/-- The target of an item at admission: the primary of its route, or residue (R40). -/
def admissionTarget (identity : Identity) (route : RouteEntry) (s : State) : Option OutletId :=
  match route.primary with
  | none => none
  | some k =>
    if identity.wareClass = .unknown ∨ identity.confidence < route.minConfidence ∨
        s.outlets[k].state = .unconfigured then none
    else some k

/-- The record of an admitted item (R39, R40). -/
def newRecord (leading : Position) (footprint : Nat) (identity : Identity) (s : State) : TrackRecord :=
  let route := routeOf identity.owner identity.wareClass s
  let target := admissionTarget identity route s
  { tag := s.track.sequence + 1
    footprint := footprint
    centre := downstreamBy leading (footprint / 2)
    wareClass := identity.wareClass
    owner := identity.owner
    confidence := identity.confidence
    primary := route.primary
    alternate := route.alternate
    target := target
    state := if target.isSome then .waiting else .toResidue
    fallback := false }

/-- The admission of an item: its record is created, counted, appended and evaluated at once, and its
return is made (R32, R39). -/
def admitItem (leading : Position) (footprint : Nat) (identity : Identity) (s : State) : State :=
  let r := newRecord leading footprint identity s
  let s1 := s.onTrack fun t =>
    { t with records := t.records ++ [r], sequence := r.tag, admitted := t.admitted + 1 }
  returnItem identity.owner identity.wareClass (evaluateRecord s1 r.tag)

/-- The admission of a let-go entry, NO IDENTITY and MERGED counted where they apply (R29, R30). -/
def admitEntry (e : PendingEntry) (s : State) : State :=
  let found := letGoFootprint e s
  let s1 :=
    if e.record.isSome then s else s.onAdmission fun a => { a with noIdentity := a.noIdentity + 1 }
  if 400 < found then
    admitItem e.leading 400 unidentified (s1.onAdmission fun a => { a with merged := a.merged + 1 })
  else admitItem e.leading found (e.record.getD unidentified) s1

/-- Take an entry off the pending list, its queued capture message withdrawn (R17). -/
def removeEntry (e : PendingEntry) (rest : List PendingEntry) (s : State) : State :=
  s.onAdmission fun a => { a with entries := rest, captureQueue := a.captureQueue.erase e.capture }

/-- The head is let go: admitted, or discarded as OVERFLOW at a full track (R31). -/
def letGo (e : PendingEntry) (rest : List PendingEntry) (s : State) : State :=
  let s1 := removeEntry e rest s
  if s1.track.records.length < 48 then admitEntry e s1
  else
    let s2 := s1.onAdmission fun a => { a with overflow := a.overflow + 1 }
    handOnOverflow 7 s2.admission.overflow s2

/-- Examine the head, and each new head, at most `n` of them (R27). -/
def examineHeads : Nat → State → State
  | 0, s => s
  | n + 1, s =>
    match s.admission.entries with
    | [] => s
    | e :: rest => if e.complete || deadlineReached e s then examineHeads n (letGo e rest s) else s

/-- The Admission Unit examines the head, in RUN and DRAIN only (R27). -/
def examineHead (s : State) : State :=
  if s.line.state.moving then examineHeads s.admission.entries.length s else s

/-- Discard heads carried 3,200 counts, at most `n` of them (R33). -/
def discardHeads : Nat → State → State
  | 0, s => s
  | n + 1, s =>
    match s.admission.entries with
    | [] => s
    | e :: rest =>
      if 3200 ≤ signedDiff s.sensing.position e.leading then
        discardHeads n ((removeEntry e rest s).onAdmission fun a =>
          { a with pendingAbandoned := a.pendingAbandoned + 1 })
      else s

/-- The Admission Unit's handling of an advance of B: the head is examined in RUN and DRAIN, and far
heads are discarded in HALT (R27, R33). -/
def admissionAdvance (s : State) : State :=
  match s.line.state with
  | .run | .drain => examineHeads s.admission.entries.length s
  | .halt _ => discardHeads s.admission.entries.length s
  | .standby => s

/-! ## Entry-gate edges (R23 to R25) -/

/-- Open a pending entry at a leading position and queue its capture message (R17, R23, R24). -/
def openEntry (leading : Position) (s : State) : State :=
  s.onAdmission fun a =>
    let n := a.captureCounter + 1
    { a with
      captureCounter := n
      entries := a.entries ++ [{ capture := n, leading := leading, trailing := none, record := none }]
      captureQueue := a.captureQueue ++ [n] }

/-- A leading edge reported at a position (R24). -/
def leadingEdge (position : Position) (s : State) : State :=
  if s.line.state = .run ∧ s.admission.entries.length < 4 then driveOutputs (openEntry position s)
  else
    let s1 := s.onAdmission fun a => { a with untracked := a.untracked + 1 }
    handOnOverflow 6 s1.admission.untracked s1

/-- The pending list with a trailing position given to its newest entry that lacks one, if any (R25). -/
def giveTrailing (position : Position) : List PendingEntry → List PendingEntry
  | [] => []
  | e :: rest =>
    if rest.any fun e => e.trailing.isNone then e :: giveTrailing position rest
    else if e.trailing.isNone then { e with trailing := some position } :: rest
    else e :: rest

/-- Whether the newest entry that lacks a Pt is the head (R25). -/
def headTakesTrailing : List PendingEntry → Bool
  | [] => false
  | e :: rest => e.trailing.isNone && !(rest.any fun e => e.trailing.isNone)

/-- A trailing edge reported at a position; the head is examined when the edge is the head's (R25, R27). -/
def trailingEdge (position : Position) (s : State) : State :=
  let s1 := s.onAdmission fun a => { a with entries := giveTrailing position a.entries }
  if headTakesTrailing s.admission.entries then settleLine (examineHead s1) else s1

/-! ## Identification records (R18 to R21, R26) -/

/-- Attach a record to the entry of a capture number. -/
def attachRecord (capture : CaptureNumber) (identity : Identity) (s : State) : State :=
  s.onAdmission fun a =>
    { a with entries := a.entries.map fun e => if e.capture = capture then { e with record := some identity } else e }

/-- The matching of an accepted record; the head is examined when the record is attached to it (R26, R27). -/
def matchRecord (capture : CaptureNumber) (identity : Identity) (s : State) : State :=
  match s.admission.entries.find? fun e => e.capture == capture with
  | none => s.onAdmission fun a => { a with stale := a.stale + 1 }
  | some e =>
    if e.record.isSome then s.onAdmission fun a => { a with duplicate := a.duplicate + 1 }
    else
      let s1 := attachRecord capture identity s
      if (s.admission.entries.head?.map (·.capture)) = some capture then settleLine (examineHead s1) else s1

/-- The receiver returns to HUNTING and the frame timer stops (R18, R19). -/
def hunt (s : State) : State := s.onAdmission fun a => { a with framing := .hunting, frameTimer := none }

/-- The record in progress is discarded and BAD FRAME counted (R18, R19). -/
def discardFrame (s : State) : State := (hunt s).onAdmission fun a => { a with badFrame := a.badFrame + 1 }

/-- A record completed: BAD CHECK, or accepted and matched (R20, R26). -/
def completeRecord (bytes : List Byte) (s : State) : State :=
  match checkRecord bytes with
  | none => s.onAdmission fun a => { a with badCheck := a.badCheck + 1 }
  | some (capture, identity) => matchRecord capture identity s

/-- The frame timer is started or restarted: it expires at the sixth 1 ms boundary from now (R19). -/
def collect (bytes : List Byte) (s : State) : State :=
  s.onAdmission fun a => { a with framing := .collecting bytes, frameTimer := some (s.now + 6) }

/-- A byte received on the Identity Port (R18, R19). -/
def takeByte (value : Byte) (framingError : Bool) (s : State) : State :=
  match s.admission.framing with
  | .hunting => if framingError = false ∧ value = recordMark then collect [value] s else s
  | .collecting taken =>
    if framingError then discardFrame s
    else if taken.length < 5 then collect (taken ++ [value]) s
    else completeRecord (taken ++ [value]) (hunt s)

/-! ## The commands -/

/-- The Admission Unit takes the leading edge that waits for it (R15, R24). -/
def takeLeadingEdge (s : State) : State :=
  match takeEdge .ge true s with
  | none => s
  | some (e, s1) => leadingEdge e.position s1

/-- The Admission Unit takes the trailing edge that waits for it (R15, R25). -/
def takeTrailingEdge (s : State) : State :=
  match takeEdge .ge false s with
  | none => s
  | some (e, s1) => trailingEdge e.position s1

/-- GE_LEADING_EDGE. -/
def execGeLeadingEdge (s : State) : Result := .next (takeLeadingEdge s)

/-- GE_TRAILING_EDGE. -/
def execGeTrailingEdge (s : State) : Result := .next (takeTrailingEdge s)

/-- RECEIVE_BYTE (R18). -/
def execReceiveByte (value : Byte) (framingError : Bool) (s : State) : Result :=
  .next (takeByte value framingError s)

/-- FRAME_TIMER_EXPIRY: it occurs while a record is collected and its time has come (R19). -/
def execFrameTimerExpiry (s : State) : Result :=
  match s.admission.frameTimer with
  | none => .next s
  | some t => if t ≤ s.now then .next (discardFrame s) else .next s

/-- CAPTURE_MESSAGE_BEGIN: it occurs while the line is free and a message is queued (R17). -/
def execCaptureMessageBegin (s : State) : Result :=
  match s.admission.sending, s.admission.captureQueue with
  | none, n :: rest =>
    .next (s.onAdmission fun a => { a with captureQueue := rest, sending := some (captureMessage n) })
  | _, _ => .next s

/-- CAPTURE_MESSAGE_SENT: the line is free again (R17). -/
def execCaptureMessageSent (s : State) : Result :=
  .next (s.onAdmission fun a => { a with sending := none })

end Sys2Proof.Machine
end

