-- ==== Sys2Proof/Machine/Levels.lean ====
section
/-! DEFINITION. The Level Supervisor (chapter 8): settling, samples, verdicts and their effects, and the
requests to a channel. -/

namespace Sys2Proof.Machine

open Sys2Proof

/-! ## Effects of a change of verdict (R139, R140) -/

/-- The Line Controller's copy of a channel's detected state, for AIR and RES (R139, R168). -/
def copyDetected (c : ChannelId) (detected : Bool) (s : State) : State :=
  if c = airChannel then s.onLine fun l => { l with airCopy := detected }
  else if c = resChannel then s.onLine fun l => { l with resCopy := detected }
  else s

/-- A detection handed to the block it affects (R139): FPk makes an OPEN CRATE outlet FULL, AIR turns air
wait on, RES reaches the Line Controller. -/
def handDetection (c : ChannelId) (s : State) : State :=
  let s1 := copyDetected c true s
  match probedOutlet c with
  | some k =>
    if s1.outlets[k].mode = .crate ∧ s1.outlets[k].state = .opened then enterFull k (accepting k s1) s1 else s1
  | none => if c = airChannel then s1.onAir fun a => { a with airWait := true } else s1

/-- A release handed to the block it affects (R139): AIR turns air wait off, and a grant is examined for (R87). -/
def handRelease (c : ChannelId) (s : State) : State :=
  let s1 := copyDetected c false s
  if c = airChannel then examine (s1.onAir fun a => { a with airWait := false }) else s1

/-- Raise a CHANNEL notice with the codes in force (R140). -/
def noticeChannel (c : ChannelId) (event : ChannelEvent) (s : State) : State :=
  raiseNotice (.channel c event s.channels[c].trip s.channels[c].release) s

/-- The effects, the count and the notice of a detection (R139, R140). -/
def detection (c : ChannelId) (s : State) : State :=
  let s1 := (handDetection c s).onChannel c fun ch => { ch with detectionCount := ch.detectionCount + 1 }
  match s1.channels[c].edges with
  | .detect | .both => noticeChannel c .detect s1
  | .release | .never => s1

/-- The effects and the notice of a release (R139, R140). -/
def releaseVerdict (c : ChannelId) (s : State) : State :=
  let s1 := handRelease c s
  match s1.channels[c].edges with
  | .release | .both => noticeChannel c .release s1
  | .detect | .never => s1

/-! ## Samples (R134 to R138) -/

/-- The verdict a showing gives. -/
def verdictOf (shown : Bool) : Verdict := if shown then .detected else .clear

/-- The first run after a sample (R135). -/
def firstRunAfter (shown : Bool) (run : Option (Bool × Nat)) : Bool × Nat :=
  match run with
  | none => (shown, 1)
  | some (candidate, count) => if candidate = shown then (candidate, count + 1) else (shown, 1)

/-- The channel back in OFF, its settings, last verdict and detection count kept (R129, R137, R141). -/
def Channel.turnedOff (ch : Channel) : Channel :=
  { ch with
    state := .off
    ready := false
    detected := false
    firstRun := none
    opposing := 0
    settleEnd := none
    nextSample := none }

/-- What follows the first verdict, by the mode (R136, R137). -/
def firstVerdict (c : ChannelId) (shown : Bool) (s : State) : State :=
  let s1 := s.onChannel c fun ch => { ch with lastVerdict := verdictOf shown }
  match s.channels[c].mode with
  | .watch =>
    let s2 := s1.onChannel c fun ch =>
      { ch with state := .watching, ready := true, detected := shown, firstRun := none, opposing := 0 }
    if shown then detection c s2 else s2
  | .checkReport => raiseNotice (.checkDone c (verdictOf shown)) (s1.onChannel c Channel.turnedOff)
  | .checkAlert =>
    let s2 := s1.onChannel c Channel.turnedOff
    if shown then raiseNotice (.checkDone c (verdictOf shown)) s2 else s2

/-- A sample in SAMPLING-FIRST (R135). -/
def sampleFirst (c : ChannelId) (shown : Bool) (s : State) : State :=
  let (candidate, count) := firstRunAfter shown s.channels[c].firstRun
  if 3 ≤ count then firstVerdict c candidate s
  else s.onChannel c fun ch => { ch with firstRun := some (candidate, count) }

/-- A sample in WATCHING (R138). -/
def sampleWatching (c : ChannelId) (shown : Bool) (s : State) : State :=
  let ch := s.channels[c]
  if shown = ch.detected then s.onChannel c fun ch => { ch with opposing := 0 }
  else if ch.opposing < 2 then s.onChannel c fun ch => { ch with opposing := ch.opposing + 1 }
  else
    let s1 := s.onChannel c fun ch =>
      { ch with detected := shown, opposing := 0, lastVerdict := verdictOf shown }
    if shown then detection c s1 else releaseVerdict c s1

/-- The next sample instant follows by the sample period (R134). -/
def scheduleSample (c : ChannelId) (s : State) : State :=
  s.onChannel c fun ch => { ch with nextSample := some (s.now + ch.period) }

/-- SETTLE_TIME_EXPIRY: it occurs in SETTLING once the settle time has come to its end (R134). -/
def execSettleTimeExpiry (c : ChannelId) (s : State) : Result :=
  match s.channels[c].state, s.channels[c].settleEnd with
  | .settling, some t =>
    if t ≤ s.now then
      .next (scheduleSample c (s.onChannel c fun ch =>
        { ch with state := .samplingFirst, settleEnd := none, firstRun := none }))
    else .next s
  | _, _ => .next s

/-- CHANNEL_SAMPLE: it occurs at a sample instant in SAMPLING-FIRST and WATCHING (R129, R135, R138). -/
def execChannelSample (c : ChannelId) (above : Bool) (s : State) : Result :=
  match s.channels[c].nextSample with
  | none => .next s
  | some t =>
    if t ≤ s.now then
      match s.channels[c].state with
      | .samplingFirst => .next (driveOutputs (sampleFirst c (showsCondition c above) (scheduleSample c s)))
      | .watching => .next (driveOutputs (sampleWatching c (showsCondition c above) (scheduleSample c s)))
      | .off | .settling => .next s
    else .next s

/-! ## Requests to a channel (R131 to R133, R141) -/

/-- The checks of subject and sender of a request to a channel (R131). -/
def withChannel (q : Request) (handle : ChannelId → State → State) (s : State) : State :=
  match channelOf (q.byte 2) with
  | none => respond q .badValue [] s
  | some c =>
    if q.station = 0 ∨ q.station = channelOwner c s then handle c s else respond q .notYours [] s

/-- The cross-check of a channel's codes (R130). -/
def codesAllowed (c : ChannelId) (trip release : Nat) : Bool :=
  if c = airChannel then decide (trip ≤ release) else decide (release ≤ trip)

/-- SET CHANNEL (R132). -/
def handleSetChannel (q : Request) (s : State) : State :=
  withChannel q (fun c s =>
    if s.channels[c].state = .off then
      match ChannelMode.ofCode (q.byte 3), NoticeEdges.ofCode (q.byte 7) with
      | some mode, some edges =>
        if codesAllowed c (q.byte 4) (q.byte 5) ∧ q.byte 6 ∈ [4, 8, 16, 32] then
          (respond q .done [] s).onChannel c fun ch =>
            { ch with mode := mode, trip := q.byte 4, release := q.byte 5, period := q.byte 6, edges := edges }
        else respond q .badValue [] s
      | _, _ => respond q .badValue [] s
    else respond q .wrongState [] s) s

/-- Whether a channel is the fill probe of an outlet in HANDOFF mode (R133). -/
def probesHandoff (c : ChannelId) (s : State) : Bool :=
  match probedOutlet c with
  | some k => s.outlets[k].mode == .handoff
  | none => false

/-- ENABLE CHANNEL (R133): the settle time ends at the 64th 1 ms boundary from now. -/
def handleEnableChannel (q : Request) (s : State) : State :=
  withChannel q (fun c s =>
    if s.channels[c].state = .off ∧ probesHandoff c s = false then
      (respond q .done [] s).onChannel c fun ch =>
        { ch with state := .settling, settleEnd := some (s.now + 64) }
    else respond q .wrongState [] s) s

/-- CHANNEL OFF (R141): a detection's effects are cleared as at a release, with its own notice. -/
def handleChannelOff (q : Request) (s : State) : State :=
  withChannel q (fun c s =>
    let s1 := respond q .done [] s
    if s.channels[c].state = .watching ∧ s.channels[c].detected then
      driveOutputs (noticeChannel c .stoppedWhileDetected (handRelease c (s1.onChannel c fun ch =>
        { ch.turnedOff with lastVerdict := .clear })))
    else s1.onChannel c Channel.turnedOff) s

/-- SET CHANNEL. -/
def execSetChannel (s : State) : Result := .next (takeRequest 0x20 8 false handleSetChannel s)

/-- ENABLE CHANNEL. -/
def execEnableChannel (s : State) : Result := .next (takeRequest 0x21 3 false handleEnableChannel s)

/-- CHANNEL OFF. -/
def execChannelOff (s : State) : Result := .next (takeRequest 0x22 3 false handleChannelOff s)

end Sys2Proof.Machine
end

