-- ==== Sys2Proof/Machine/LineControl.lean ====
section
/-! DEFINITION. The Line Controller (chapter 10): power-on, the e-stop line, the requests that move the
line, and the settings of the geometry and of the governor. -/

namespace Sys2Proof.Machine

open Sys2Proof

/-! ## Power-on and the e-stop line (R158, R162) -/

/-- POWER_ON: every block at its power-on values, the LINE notice raised (R158, R180). The queue of commands
and the count of free values used are the model's own and go on. -/
def execPowerOn (phases : Phases) (estopAsserted : Bool) (s : State) : Result :=
  .next { State.powerOn phases estopAsserted with draws := s.draws, pending := s.pending }

/-- ESTOP_ASSERTION: from RUN or DRAIN to HALT; in every state a cut (R89, R162). -/
def execEstopAssertion (s : State) : Result :=
  .next (driveOutputs (cutPulses (haltLine .estop (s.onLine fun l => { l with estop := true }))))

/-- ESTOP_RELEASE: seen by the governor and by later checks; it moves no state (R162). -/
def execEstopRelease (s : State) : Result :=
  .next (driveOutputs (s.onLine fun l => { l with estop := false }))

/-! ## Requests that move the line (R159, R160, R164 to R166) -/

/-- START (R159). -/
def handleStart (q : Request) (s : State) : State :=
  if s.line.state = .standby ∧ s.line.estop = false ∧ s.geometry.beltEnd.isSome then
    driveOutputs (moveLine .run .start (respond q .done [] s))
  else respond q .wrongState [] s

/-- DRAIN (R160). -/
def handleDrain (q : Request) (s : State) : State :=
  if s.line.state = .run then settleLine (moveLine .drain .drain (respond q .done [] s))
  else respond q .wrongState [] s

/-- STOP (R165). -/
def handleStop (q : Request) (s : State) : State :=
  if s.line.state = .standby then respond q .wrongState [] s
  else driveOutputs (cutPulses (discardItems (moveLine .standby .stop (respond q .done [] s))))

/-- RESUME (R164): the Admission Unit examines the head and the Air Arbiter examines for a grant, in an
order the manual leaves open (log 3). -/
def handleResume (q : Request) (s : State) : State :=
  match s.line.state with
  | .halt r =>
    if s.line.estop = false ∧ s.sensing.debt = 0 then
      settleLine (inEitherOrder examineHead examine (moveLine r.lineState .resume (respond q .done [] s)))
    else respond q .wrongState [] s
  | .standby | .run | .drain => respond q .wrongState [] s

/-- Belt sensing's own INITIALIZE effects (R6, R11); the rest is kept (R1, R3, R16). -/
def Sensing.initialized (now : Nat) (b : Sensing) : Sensing :=
  { b with debt := 0, intervalCount := 0, ring := Vector.replicate 8 0, speed := 0, intervalEnd := now + 32 }

/-- A channel after INITIALIZE: OFF, a detected channel's last verdict clear (R142). -/
def Channel.initialized (ch : Channel) : Channel :=
  { ch.turnedOff with lastVerdict := if ch.detected then .clear else ch.lastVerdict }

/-- The Link Interface's INITIALIZE effects: the queues, the sets, the stage and the arm (R180). -/
def Link.initialized (l : Link) : Link :=
  { l with
    receiveQueue := []
    transmitQueue := if l.transmitting then l.transmitQueue.take 1 else []
    stations := Vector.ofFn fun a => { l.stations[a] with notices := [], lost := false }
    stage := none
    overflowArm := true
    requestsLost := l.requestsLost + BitVec.ofNat 32 l.receiveQueue.length }

/-- The blocks' own INITIALIZE effects beyond STOP's (R166). -/
def initializeBlocks (s : State) : State :=
  let s1 := s.onSensing (Sensing.initialized s.now)
  let s2 := s1.onAdmission fun a => { a with framing := .hunting, frameTimer := none }
  let s3 := s2.onTimings fun ts => Vector.ofFn fun k => { ts[k] with lead := 0 }
  let s4 := s3.onAir fun a => { a with rotationMark := 0, airWait := false }
  let s5 := s4.onOutlets fun os => Vector.ofFn fun k => { os[k] with masked := true, consecutive := 0 }
  let s6 := s5.onChannels fun chs => Vector.ofFn fun c => Channel.initialized chs[c]
  s6.onLink Link.initialized

/-- INITIALIZE (R166): the line goes to STANDBY with the hand-overs of STOP, every block makes its own
effects, and then the response and the LINE notice are placed (R180). -/
def handleInitialize (q : Request) (s : State) : State :=
  let s1 := s.onLine fun l => { l with state := .standby, airCopy := false, resCopy := false }
  let s2 := initializeBlocks (cutPulses (discardItems s1))
  driveOutputs (raiseNotice (.line (some s.line.state) .standby .initialize_) (respond q .done [] s2))

/-! ## Settings (R73, R169) -/

/-- Whether a belt end offset lies at least 100 counts beyond every offset present (R73). -/
def beyondOffsets (e : Nat) (s : State) : Bool :=
  s.timing.toList.all fun t =>
    match t.offset with
    | none => true
    | some d => decide (d + 100 ≤ e)

/-- SET GEOMETRY (R73, R169). -/
def handleSetGeometry (q : Request) (s : State) : State :=
  if s.line.state = .standby then
    let d := q.word 2
    let e := q.word 4
    let m := q.byte 6
    if 50 ≤ d ∧ d ≤ 400 ∧ 700 ≤ e ∧ e ≤ 3200 ∧ beyondOffsets e s ∧ 24 ≤ m ∧ m ≤ 47 then
      driveOutputs (((respond q .done [] s).onGeometry fun _ => { identityOffset := d, beltEnd := some e }).onLine
        fun l => { l with slowMark := m })
    else respond q .badValue [] s
  else respond q .wrongState [] s

/-- SET SPEED CODES (R169). -/
def handleSetSpeedCodes (q : Request) (s : State) : State :=
  let run := q.byte 2
  let slow := q.byte 3
  if 1 ≤ run ∧ 1 ≤ slow ∧ slow ≤ run then
    driveOutputs ((respond q .done [] s).onLine fun l => { l with runCode := run, slowCode := slow })
  else respond q .badValue [] s

/-! ## The request commands -/

/-- START. -/
def execStart (s : State) : Result := .next (takeRequest 0x01 2 true handleStart s)

/-- DRAIN. -/
def execDrain (s : State) : Result := .next (takeRequest 0x02 2 true handleDrain s)

/-- STOP. -/
def execStop (s : State) : Result := .next (takeRequest 0x03 2 true handleStop s)

/-- RESUME. -/
def execResume (s : State) : Result := .next (takeRequest 0x04 2 true handleResume s)

/-- INITIALIZE. -/
def execInitializeLine (s : State) : Result := .next (takeRequest 0x05 2 true handleInitialize s)

/-- SET GEOMETRY. -/
def execSetGeometry (s : State) : Result := .next (takeRequest 0x06 7 true handleSetGeometry s)

/-- SET SPEED CODES. -/
def execSetSpeedCodes (s : State) : Result := .next (takeRequest 0x07 4 true handleSetSpeedCodes s)

end Sys2Proof.Machine
end

