-- ==== Sys2Proof/Machine/Routing.lean ====
section
/-! DEFINITION. The Routing Table (chapter 7): SET ROUTE, and the reset of foreign routes at an owner change. -/

namespace Sys2Proof.Machine

open Sys2Proof

/-- Whether an outlet of an owner is foreign to a row: neither the row's own nor shared (R120). -/
def foreign (owner row : StationId) : Bool := owner != 0 && owner != row

/-- Whether an entry names outlet `k`. -/
def RouteEntry.names (e : RouteEntry) (k : OutletId) : Bool := e.primary == some k || e.alternate == some k

/-- An entry with outlet `k` dropped: a primary takes the alternate with it, the minimum confidence is kept (R124). -/
def dropOutlet (k : OutletId) (e : RouteEntry) : RouteEntry :=
  if e.primary = some k then { e with primary := none, alternate := none }
  else if e.alternate = some k then { e with alternate := none }
  else e

/-- A row with outlet `k` dropped, its revision raised once if an entry changed (R117, R124). -/
def dropFromRow (k : OutletId) (r : RouteRow) : RouteRow :=
  if r.entries.toList.any fun e => e.names k then
    { entries := Vector.ofFn fun c => dropOutlet k r.entries[c], revision := r.revision + 1 }
  else r

/-- The reset of the routes that name outlet `k` in rows to which its new owner makes it foreign (R123, R124). -/
def resetForeignRoutes (k : OutletId) (newOwner : StationId) (s : State) : State :=
  s.onRoutes fun rows => Vector.ofFn fun row => if foreign newOwner row then dropFromRow k rows[row] else rows[row]

/-- The outlets a route names (R120). -/
def namedOutlets (primary alternate : Option OutletId) : List OutletId := primary.toList ++ alternate.toList

/-- Whether the belt allows the shape of a route (R121). -/
def routeShape (primary alternate : Option OutletId) (s : State) : Bool :=
  match primary, alternate with
  | none, none => true
  | none, some _ => false
  | some p, none => s.timing[p].offset.isSome
  | some p, some a =>
    match s.timing[p].offset, s.timing[a].offset with
    | some dp, some da => a != p && decide (dp < da)
    | _, _ => false

/-- Write a route entry and raise its row's revision (R122). -/
def writeRoute (row : StationId) (c : Fin 11) (e : RouteEntry) (s : State) : State :=
  s.onRoutes fun rows =>
    rows.set row { entries := rows[row].entries.set c e, revision := rows[row].revision + 1 }

/-- The outlet a route argument names: 0 is residue or an absent alternate, 1 to 12 an outlet (R119). -/
def routeOutlet (n : Nat) : Option (Option OutletId) := if n = 0 then some none else (outletOf n).map some

/-- SET ROUTE, its checks in the order of R119. -/
def handleSetRoute (q : Request) (s : State) : State :=
  match stationOf (q.byte 2), classArgument (q.byte 3) with
  | some row, some c =>
    if q.station = 0 ∨ q.station = row then
      match routeOutlet (q.byte 4), routeOutlet (q.byte 5), confidenceArgument (q.byte 6) with
      | some primary, some alternate, some confidence =>
        if (namedOutlets primary alternate).any fun k => foreign s.outlets[k].owner row then
          respond q .notYours [] s
        else if routeShape primary alternate s then
          writeRoute row c { primary := primary, alternate := alternate, minConfidence := confidence }
            (respond q .done (bytes2 (s.routes[row].revision + 1).toNat) s)
        else respond q .badRoute [] s
      | _, _, _ => respond q .badValue [] s
    else respond q .notYours [] s
  | _, _ => respond q .badValue [] s

/-- SET ROUTE. -/
def execSetRoute (s : State) : Result := .next (takeRequest 0x18 7 false handleSetRoute s)

end Sys2Proof.Machine
end

