-- ==== Sys2Proof/Machine/Outlets.lean ====
section
/-! DEFINITION. The Outlet Controller (chapter 6): confirmations, timeouts, crates, masks and jams, and the
placement of an outlet with its checks of geometry (R71, R72). -/

namespace Sys2Proof.Machine

open Sys2Proof

/-! ## Confirmation (R99, R100, R103) -/

/-- One place of outlet `k`'s crate is taken; a count brought to 0 in OPEN makes it FULL (R100, R103). -/
def takePlace (k : OutletId) (before : Bool) (s : State) : State :=
  let s1 := s.onOutlet k fun o => { o with currentCount := o.currentCount - 1 }
  if s1.outlets[k].currentCount = 0 ∧ s1.outlets[k].state = .opened then enterFull k before s1 else s1

/-- The crate's part in a confirmation at a CRATE outlet (R103). -/
def crateEffect (k : OutletId) (before : Bool) (s : State) : State :=
  let o := s.outlets[k]
  if !crateInPlace (filteredState (.crateSensor k) s) o then
    s.onOutlet k fun o => { o with spill := o.spill + 1 }
  else if o.state = .full ∨ o.currentCount = 0 then
    s.onOutlet k fun o => { o with overfill := o.overfill + 1 }
  else takePlace k before s

/-- The removal of the oldest entry as SORTED (R57, R99). -/
def removeSorted (k : OutletId) (rest : List ConfirmEntry) (s : State) : State :=
  (s.onOutlet k fun o => { o with queue := rest, sorted := o.sorted + 1, consecutive := 0 }).onTrack
    fun t => { t with sorted := t.sorted + 1 }

/-- A stray at outlet `k` (R100). -/
def strayEvent (k : OutletId) (before : Bool) (s : State) : State :=
  let s1 := s.onOutlet k fun o => { o with stray := o.stray + 1 }
  let o := s.outlets[k]
  if o.mode = .crate ∧ crateInPlace (filteredState (.crateSensor k) s) o ∧ o.state ≠ .full ∧ 0 < o.currentCount then
    takePlace k before s1
  else s1

/-- A confirmation event at outlet `k`; `before` is whether it was accepting (R99). -/
def confirmationEvent (k : OutletId) (before : Bool) (s : State) : State :=
  let o := s.outlets[k]
  if o.state = .unconfigured then s
  else
    match o.queue with
    | [] => strayEvent k before s
    | _ :: rest =>
      let s1 := removeSorted k rest s
      match o.mode with
      | .crate => crateEffect k before s1
      | .handoff => s1

/-- Outlet `k` takes the rising edge of its chute gate that waits: a confirmation event at a CRATE outlet (R15, R99). -/
def takeChuteRising (k : OutletId) (s : State) : State :=
  match takeEdge (.chuteGate k) true s with
  | none => s
  | some (_, s1) =>
    match s1.outlets[k].mode with
    | .crate => settleLine (confirmationEvent k (accepting k s1) s1)
    | .handoff => s1

/-- CHUTE_GATE_RISING. -/
def execChuteGateRising (k : OutletId) (s : State) : Result := .next (takeChuteRising k s)

/-- Outlet `k` takes the rising edge of its ready line that waits: the line reads active from then on, with no
report, no count and no confirmation (R15, R110). -/
def takeReadyRising (k : OutletId) (s : State) : State :=
  match takeEdge (.readyLine k) true s with
  | none => s
  | some (_, s1) => s1

/-- READY_LINE_RISING. -/
def execReadyLineRising (k : OutletId) (s : State) : Result := .next (takeReadyRising k s)

/-- A ready line's fall at a HANDOFF outlet: a confirmation event, and a loss of acceptance if the outlet was
accepting before the fall, which `before` tells (R96, R110). -/
def fallReady (k : OutletId) (before : Bool) (s : State) : State :=
  reportLoss present k before (confirmationEvent k before s)

/-- Outlet `k` takes the falling edge of its ready line that waits; the line reads inactive from then on, and
whether the outlet was accepting is read before the edge is taken (R15, R96, R110). -/
def takeReadyFalling (k : OutletId) (s : State) : State :=
  match takeEdge (.readyLine k) false s with
  | none => s
  | some (_, s1) =>
    match s1.outlets[k].mode with
    | .crate => s1
    | .handoff => settleLine (fallReady k (accepting k s) s1)

/-- READY_LINE_FALLING. -/
def execReadyLineFalling (k : OutletId) (s : State) : Result := .next (takeReadyFalling k s)

/-! ## Timeout (R101, R102) -/

/-- The deadline of the oldest AWAITING entry of a queue, if it is the head (R98, R101). -/
def headDeadline (queue : List ConfirmEntry) : Option Nat :=
  match queue with
  | { phase := .awaiting d, .. } :: _ => some d
  | _ => none

/-- The timeout of the head of outlet `k`'s queue (R101, R102). -/
def timeoutHead (k : OutletId) (s : State) : State :=
  let before := accepting k s
  let jams := s.outlets[k].consecutive = 2 ∧ s.outlets[k].state = .opened
  let s1 := (s.onOutlet k fun o =>
      { o with
        queue := o.queue.tail
        unconfirmed := o.unconfirmed + 1
        consecutive := min (o.consecutive + 1) 3 }).onTrack
    fun t => { t with unconfirmed := t.unconfirmed + 1 }
  if jams then enterJam k before s1 else s1

/-- CONFIRM_TIMEOUT: it occurs while the head of outlet `k`'s queue is AWAITING and its deadline has come (R101). -/
def execConfirmTimeout (k : OutletId) (s : State) : Result :=
  match headDeadline s.outlets[k].queue with
  | none => .next s
  | some d => if d ≤ s.now then .next (settleLine (timeoutHead k s)) else .next s

/-! ## Crates (R105 to R109) -/

/-- A crate removed at outlet `k` (R105). -/
def removeCrate (k : OutletId) (s : State) : State :=
  let o := s.outlets[k]
  if o.mode = .crate ∧ (o.state = .opened ∨ o.state = .full ∨ o.state = .held) then
    driveOutputs (reportLoss present k (accepting k s) (s.onOutlet k fun o => { o with state := .swap }))
  else s

/-- Outlet `k` takes the falling edge of its crate sensor that waits (R15, R105). -/
def takeCrateFalling (k : OutletId) (s : State) : State :=
  match takeEdge (.crateSensor k) false s with
  | none => s
  | some (_, s1) => removeCrate k s1

/-- CRATE_REMOVED. -/
def execCrateRemoved (k : OutletId) (s : State) : Result := .next (takeCrateFalling k s)

/-- The crate of outlet `k` is fresh: its count is the base count, and the outlet opens, or jams if a jam is
owed (R106, R107). -/
def freshCrate (k : OutletId) (s : State) : State :=
  openOrJam k (s.onOutlet k fun o => { o with currentCount := o.baseCount })

/-- A crate placed at outlet `k` (R106). -/
def placeCrate (k : OutletId) (s : State) : State :=
  let o := s.outlets[k]
  if o.mode = .crate ∧ o.state = .swap then
    if o.autoreload then freshCrate k s else s.onOutlet k fun o => { o with state := .held }
  else s

/-- Outlet `k` takes the rising edge of its crate sensor that waits (R15, R106). -/
def takeCrateRising (k : OutletId) (s : State) : State :=
  match takeEdge (.crateSensor k) true s with
  | none => s
  | some (_, s1) => placeCrate k s1

/-- CRATE_PLACED. -/
def execCratePlaced (k : OutletId) (s : State) : Result := .next (takeCrateRising k s)

/-! ## Requests to an outlet (R107 to R112) -/

/-- The checks of subject and sender of a request to an outlet: its owner and station 0 may send it (R112). -/
def withOutlet (q : Request) (handle : OutletId → State → State) (s : State) : State :=
  match outletOf (q.byte 2) with
  | none => respond q .badValue [] s
  | some k =>
    if q.station = 0 ∨ q.station = s.outlets[k].owner then handle k s else respond q .notYours [] s

/-- MASK (R111). -/
def handleMask (q : Request) (s : State) : State :=
  withOutlet q (fun k s =>
    driveOutputs (reportLoss present k (accepting k s)
      ((respond q .done [] s).onOutlet k fun o => { o with masked := true }))) s

/-- UNMASK (R111). -/
def handleUnmask (q : Request) (s : State) : State :=
  withOutlet q (fun k s => (respond q .done [] s).onOutlet k fun o => { o with masked := false }) s

/-- SET CRATE (R108). -/
def handleSetCrate (q : Request) (s : State) : State :=
  withOutlet q (fun k s =>
    let base := q.byte 3
    match switchOfCode (q.byte 4) with
    | none => respond q .badValue [] s
    | some autoreload =>
      if 1 ≤ base ∧ base ≤ 250 then
        (respond q .done [] s).onOutlet k fun o =>
          { o with baseCount := base, autoreload := autoreload, currentCount := min o.currentCount base }
      else respond q .badValue [] s) s

/-- RELOAD CRATE (R107). -/
def handleReloadCrate (q : Request) (s : State) : State :=
  withOutlet q (fun k s =>
    let o := s.outlets[k]
    if o.mode = .crate ∧ (o.state = .full ∨ o.state = .held) then freshCrate k (respond q .done [] s)
    else respond q .wrongState [] s) s

/-- The state a CRATE outlet takes from its crate sensor and its current count; FULL is entered (R109, R114). -/
def enterByCrate (k : OutletId) (s : State) : State :=
  if filteredState (.crateSensor k) s then
    if s.outlets[k].currentCount = 0 then enterFull k false s
    else s.onOutlet k fun o => { o with state := .opened }
  else s.onOutlet k fun o => { o with state := .swap }

/-- The state an outlet takes by its mode (R109, R114). -/
def enterByMode (k : OutletId) (s : State) : State :=
  match s.outlets[k].mode with
  | .crate => enterByCrate k s
  | .handoff => s.onOutlet k fun o => { o with state := .opened }

/-- CLEAR JAM (R109). -/
def handleClearJam (q : Request) (s : State) : State :=
  withOutlet q (fun k s =>
    if s.outlets[k].state = .jammed then
      enterByMode k ((respond q .done [] s).onOutlet k fun o => { o with consecutive := 0 })
    else respond q .wrongState [] s) s

/-! ## Placement (R60, R63, R71, R72, R113, R114, R174) -/

/-- SET PLACE TIMING: the placement stage is written, its values unchecked (R174). -/
def handleSetPlaceTiming (q : Request) (s : State) : State :=
  match outletOf (q.byte 2) with
  | none => respond q .badValue [] s
  | some k =>
    (respond q .done [] s).onLink fun l =>
      { l with
        stage := some
          { outlet := k
            latency := q.byte 3
            extension := q.byte 4
            minPulse := q.byte 5
            maxPulse := q.word 6 } }

/-- The checks of state of a placement with a mode code (R113). -/
def placementState (k : OutletId) (modeCode : Nat) (s : State) : Bool :=
  s.outlets[k].masked && s.track.records.all (fun r => r.target != some k) && s.outlets[k].queue.isEmpty &&
    (OutletMode.ofCode modeCode != some .handoff || s.channels[fillProbe k].state == .off)

/-- The checks of range of the staged timing values (R71). -/
def timingInRange (p : PlacementStage) : Bool :=
  decide (p.latency ≤ 250) && decide (p.extension ≤ 50) && decide (10 ≤ p.minPulse) && decide (p.minPulse ≤ 100) &&
    decide (20 ≤ p.maxPulse) && decide (p.maxPulse ≤ 500) && decide (p.minPulse ≤ p.maxPulse)

/-- Whether an offset for outlet `k` keeps the increasing order against outlet `j`'s (R72). -/
def offsetInOrder (k : OutletId) (offset : Nat) (s : State) (j : OutletId) : Bool :=
  match s.timing[j].offset with
  | none => true
  | some d => if j < k then decide (d < offset) else if k < j then decide (offset < d) else true

/-- The checks of an offset for outlet `k` (R72). -/
def offsetAllowed (k : OutletId) (offset : Nat) (s : State) : Bool :=
  decide (660 ≤ offset) && decide (offset ≤ 3000) && allOutlets.all (offsetInOrder k offset s) &&
    (match s.geometry.beltEnd with
      | none => true
      | some e => decide (offset + 100 ≤ e))

/-- A placement that passed its checks: what it writes (R114). -/
structure Placement where
  mode          : OutletMode
  owner         : StationId
  confirmWindow : Nat
  offset        : Nat
  stage         : PlacementStage
  deriving DecidableEq, Repr

/-- The checks of value of a placement of outlet `k` (R71, R72, R113, R174). -/
def placementValues (k : OutletId) (q : Request) (s : State) : Option Placement :=
  match OutletMode.ofCode (q.byte 3 / 16), stationOf (q.byte 3 % 16), s.link.stage with
  | some mode, some owner, some stage =>
    let window := q.word 4
    let offset := q.word 6
    if 50 ≤ window ∧ window ≤ 1000 ∧ stage.outlet = k ∧ timingInRange stage ∧ offsetAllowed k offset s then
      some { mode := mode, owner := owner, confirmWindow := window, offset := offset, stage := stage }
    else none
  | _, _, _ => none

/-- The timing parameters written and the lead computed at once (R60, R63, R114). -/
def writeTiming (k : OutletId) (p : Placement) (s : State) : State :=
  s.onTiming k fun t =>
    { t with
      offset := some p.offset
      latency := p.stage.latency
      extension := p.stage.extension
      minPulse := p.stage.minPulse
      maxPulse := p.stage.maxPulse
      lead := leadOf p.stage.latency s.sensing.speed }

/-- The state a placement sets, from the state and mode before it (R114). -/
def enterPlaced (k : OutletId) (before : OutletState) (modeBefore : OutletMode) (s : State) : State :=
  match before with
  | .jammed => s
  | .unconfigured => enterByMode k s
  | .opened | .full | .swap | .held =>
    if s.outlets[k].mode = modeBefore then s
    else enterByMode k (s.onOutlet k fun o => { o with consecutive := 0 })

/-- A placement taken: the timing, the record, the routes of an owner change, the stage emptied, and the
state (R114, R123, R174). -/
def placeOutlet (k : OutletId) (p : Placement) (s : State) : State :=
  let o := s.outlets[k]
  let s1 := (writeTiming k p s).onOutlet k fun o =>
    { o with mode := p.mode, owner := p.owner, confirmWindow := p.confirmWindow }
  let s2 := if o.owner = p.owner then s1 else resetForeignRoutes k p.owner s1
  enterPlaced k o.state o.mode (s2.onLink fun l => { l with stage := none })

/-- SET OUTLET PLACE, its checks in the order of R112. -/
def handleSetOutletPlace (q : Request) (s : State) : State :=
  match outletOf (q.byte 2) with
  | none => respond q .badValue [] s
  | some k =>
    if q.station ≠ 0 then respond q .notYours [] s
    else if !placementState k (q.byte 3 / 16) s then respond q .wrongState [] s
    else
      match placementValues k q s with
      | none => respond q .badValue [] s
      | some p => placeOutlet k p (respond q .done [] s)

/-! ## The request commands -/

/-- SET PLACE TIMING. -/
def execSetPlaceTiming (s : State) : Result := .next (takeRequest 0x09 8 true handleSetPlaceTiming s)

/-- SET OUTLET PLACE. -/
def execSetOutletPlace (s : State) : Result := .next (takeRequest 0x0A 8 false handleSetOutletPlace s)

/-- MASK. -/
def execMask (s : State) : Result := .next (takeRequest 0x10 3 false handleMask s)

/-- UNMASK. -/
def execUnmask (s : State) : Result := .next (takeRequest 0x11 3 false handleUnmask s)

/-- SET CRATE. -/
def execSetCrate (s : State) : Result := .next (takeRequest 0x12 5 false handleSetCrate s)

/-- RELOAD CRATE. -/
def execReloadCrate (s : State) : Result := .next (takeRequest 0x13 3 false handleReloadCrate s)

/-- CLEAR JAM. -/
def execClearJam (s : State) : Result := .next (takeRequest 0x14 3 false handleClearJam s)

end Sys2Proof.Machine
end

