-- ==== Sys2Proof/Machine/Reads.lean ====
section
/-! DEFINITION. The reads (section 11.4): each answers one item of its subject and changes nothing. -/

namespace Sys2Proof.Machine

open Sys2Proof

/-! ## Items (R175). An item is `none` when it is out of range, `some none` when its quantity is absent. -/

/-- A quantity that is always present. -/
def shown (n : Nat) : Option (Option Nat) := some (some n)

/-- The items of READ LINE (R167, R175). -/
def lineItem (s : State) : Nat → Option (Option Nat)
  | 0 => shown s.line.state.code
  | 1 => some (match s.line.state with
      | .halt r => some r.lineState.code
      | .standby | .run | .drain => none)
  | 2 => shown (flagCode s.line.estop)
  | 3 => shown s.line.speedRef
  | 4 => shown s.line.governor.code
  | 5 => shown s.line.runCode
  | 6 => shown s.line.slowCode
  | 7 => shown s.line.slowMark
  | 8 => shown (flagCode s.line.airCopy)
  | 9 => shown (flagCode s.line.resCopy)
  | 10 => shown s.sensing.position.toNat
  | 11 => shown s.sensing.debt
  | 12 => shown s.sensing.speed
  | 13 => shown (flagCode (filteredState .ge s))
  | 14 => shown s.admission.entries.length
  | 15 => shown (flagCode s.admission.identReady)
  | 16 => shown s.track.records.length
  | 17 => shown s.geometry.identityOffset
  | 18 => some s.geometry.beltEnd
  | 19 => shown s.air.slots
  | 20 => shown s.air.scheme.code
  | 21 => shown (s.air.rotationMark.val + 1)
  | 22 => shown (flagCode s.air.airWait)
  | 23 => shown (energisedCount s)
  | 24 => shown (requestCount s)
  | _ => none

/-- The items of READ OUTLET for outlet `k` (R92, R115, R175). -/
def outletItem (k : OutletId) (s : State) : Nat → Option (Option Nat)
  | 0 => shown s.outlets[k].mode.code
  | 1 => shown s.outlets[k].owner.val
  | 2 => shown s.outlets[k].state.code
  | 3 => shown (flagCode s.outlets[k].masked)
  | 4 => shown (flagCode (accepting k s))
  | 5 => shown s.outlets[k].confirmWindow
  | 6 => shown s.outlets[k].baseCount
  | 7 => shown s.outlets[k].currentCount
  | 8 => shown (flagCode s.outlets[k].autoreload)
  | 9 => shown (flagCode (jamOwed s.outlets[k]))
  | 10 => shown s.outlets[k].queue.length
  | 11 => shown s.outlets[k].consecutive
  | 12 => shown s.outlets[k].cratesCompleted.toNat
  | 13 => shown s.outlets[k].sorted.toNat
  | 14 => shown s.outlets[k].unconfirmed.toNat
  | 15 => shown s.outlets[k].overfill.toNat
  | 16 => shown s.outlets[k].spill.toNat
  | 17 => shown s.outlets[k].stray.toNat
  | 18 => shown (flagCode (filteredState (.chuteGate k) s))
  | 19 => shown (flagCode (filteredState (.crateSensor k) s))
  | 20 => shown (flagCode (filteredState (.readyLine k) s))
  | 21 => some s.timing[k].offset
  | 22 => shown s.timing[k].latency
  | 23 => shown s.timing[k].extension
  | 24 => shown s.timing[k].minPulse
  | 25 => shown s.timing[k].maxPulse
  | 26 => shown s.timing[k].lead
  | 27 => shown s.timing[k].lastPulse.duration
  | 28 => shown s.timing[k].lastPulse.speed
  | 29 => shown s.timing[k].lastPulse.clamp.code
  | 30 => shown (flagCode (energised k s))
  | 31 => some (s.air.pulses[k].map fun p => p.tag.toNat)
  | 32 => some (s.air.pulses[k].map fun p => p.pulseEnd - s.now)
  | 33 => some (s.air.requests[k].map fun t => t.toNat)
  | _ => none

/-- The items of one confirm-queue entry (R116, R175). -/
def confirmItem (now : Nat) (e : ConfirmEntry) : Nat → Option Nat
  | 0 => some e.owner.val
  | 1 => some e.wareClass.code.val
  | 2 => some e.phase.code
  | _ =>
    match e.phase with
    | .pulsing => none
    | .awaiting d => some (d - now)

/-- The items of one track record (R58, R175). An absent alternate reads 0. -/
def trackItem (r : TrackRecord) : Nat → Nat
  | 0 => r.footprint
  | 1 => r.centre.toNat
  | 2 => r.wareClass.code.val
  | 3 => r.owner.val
  | 4 => r.confidence.val
  | 5 => outletNumber r.primary
  | 6 => outletNumber r.alternate
  | 7 => outletNumber r.target
  | 8 => r.state.code
  | _ => flagCode r.fallback

/-- The items of one pending entry (R36, R175). -/
def pendingItem (e : PendingEntry) : Nat → Option Nat
  | 0 => some e.leading.toNat
  | 1 => e.trailing.map (·.toNat)
  | 2 => e.record.map (·.wareClass.code.val)
  | 3 => e.record.map (·.owner.val)
  | _ => e.record.map (·.confidence.val)

/-- The present opposing count or first-run count of a channel; neither exists in OFF and SETTLING (R143, log 12). -/
def channelRunCount (ch : Channel) : Option Nat :=
  match ch.state with
  | .off | .settling => none
  | .samplingFirst => some ((ch.firstRun.map (·.2)).getD 0)
  | .watching => some ch.opposing

/-- The items of READ CHANNEL for channel `c` (R143, R175). -/
def channelItem (c : ChannelId) (s : State) : Nat → Option (Option Nat)
  | 0 => shown s.channels[c].state.code
  | 1 => shown s.channels[c].mode.code
  | 2 => shown s.channels[c].trip
  | 3 => shown s.channels[c].release
  | 4 => shown s.channels[c].period
  | 5 => shown s.channels[c].edges.code
  | 6 => shown s.channels[c].reference
  | 7 => shown (flagCode s.channels[c].ready)
  | 8 => shown (flagCode s.channels[c].detected)
  | 9 => shown s.channels[c].lastVerdict.code
  | 10 => shown s.channels[c].detectionCount.toNat
  | 11 => some (channelRunCount s.channels[c])
  | 12 => some (s.channels[c].firstRun.map fun r => flagCode r.1)
  | 13 => shown (channelOwner c s).val
  | _ => none

/-- The counters of READ COUNTS by index (R175). -/
def counterAt (s : State) : Nat → Option DeviceCount
  | 0 => some s.track.admitted
  | 1 => some s.track.sorted
  | 2 => some s.track.unconfirmed
  | 3 => some s.track.residue
  | 4 => some s.track.missed
  | 5 => some s.track.abandoned
  | 6 => some s.admission.untracked
  | 7 => some s.admission.overflow
  | 8 => some s.admission.noIdentity
  | 9 => some s.admission.merged
  | 10 => some s.admission.duplicate
  | 11 => some s.admission.stale
  | 12 => some s.admission.badFrame
  | 13 => some s.admission.badCheck
  | 14 => some s.admission.pendingAbandoned
  | 15 => some s.sensing.encoderSkip
  | 16 => some s.air.grants
  | 17 => some s.air.pulsesCut
  | 18 => some s.link.requestsLost
  | 19 => some s.link.framesSkipped
  | _ => none

/-! ## Answers -/

/-- The answer to a read: its bytes, or BAD VALUE (R175). -/
def answerRead (answer : Request → State → Option (List Byte)) (q : Request) (s : State) : State :=
  match answer q s with
  | some bytes => respond q .done bytes s
  | none => respond q .badValue [] s

/-- READ LINE's answer (R167). -/
def lineAnswer (q : Request) (s : State) : Option (List Byte) := (lineItem s (q.byte 2)).map valueForm

/-- READ OUTLET's answer (R115). -/
def outletAnswer (q : Request) (s : State) : Option (List Byte) := do
  let k ← outletOf (q.byte 2)
  let v ← outletItem k s (q.byte 3)
  return valueForm v

/-- READ CONFIRM QUEUE's answer; item 4 is the number of entries (R116, R175). -/
def confirmAnswer (q : Request) (s : State) : Option (List Byte) := do
  let k ← outletOf (q.byte 2)
  if 3 < q.byte 3 ∨ 4 < q.byte 4 then none
  else
    let entry := s.outlets[k].queue[q.byte 3]?
    some (entryForm (entry.map (·.tag))
      (if q.byte 4 = 4 then some s.outlets[k].queue.length
        else entry.bind fun e => confirmItem s.now e (q.byte 4)))

/-- READ TRACK ENTRY's answer; item 10 is the number of records (R58, R175). -/
def trackAnswer (q : Request) (s : State) : Option (List Byte) :=
  if 47 < q.byte 2 ∨ 10 < q.byte 3 then none
  else
    let record := s.track.records[q.byte 2]?
    some (entryForm (record.map (·.tag))
      (if q.byte 3 = 10 then some s.track.records.length
        else record.map fun r => trackItem r (q.byte 3)))

/-- READ PENDING's answer; items 5 and 6 are the number of entries and the capture counter (R36, R175). -/
def pendingAnswer (q : Request) (s : State) : Option (List Byte) :=
  if 3 < q.byte 2 ∨ 6 < q.byte 3 then none
  else
    let entry := s.admission.entries[q.byte 2]?
    some (pendingForm (entry.map (·.capture))
      (if q.byte 3 = 5 then some s.admission.entries.length
        else if q.byte 3 = 6 then some s.admission.captureCounter.toNat
        else entry.bind fun e => pendingItem e (q.byte 3)))

/-- READ ROUTE's answer (R127). -/
def routeAnswer (q : Request) (s : State) : Option (List Byte) := do
  let row ← stationOf (q.byte 2)
  let c ← classArgument (q.byte 3)
  let e := s.routes[row].entries[c]
  return bytes1 (outletNumber e.primary) ++ bytes1 (outletNumber e.alternate) ++ bytes1 e.minConfidence.val ++
    bytes2 s.routes[row].revision.toNat

/-- READ CHANNEL's answer (R143). -/
def channelAnswer (q : Request) (s : State) : Option (List Byte) := do
  let c ← channelOf (q.byte 2)
  let v ← channelItem c s (q.byte 3)
  return valueForm v

/-- READ BALANCE's answer: the accumulator, or its threshold and mode (R157, R175). -/
def balanceAnswer (q : Request) (s : State) : Option (List Byte) := do
  let c ← sixOf (q.byte 2)
  let f ← sixOf (q.byte 3)
  match q.byte 4 with
  | 0 => some (accumulatorForm (accountOf c f s))
  | 1 => some (bytes2 (thresholdOf c f s) ++ bytes1 s.balances[c].mode.code)
  | _ => none

/-- READ COUNTS' answer (R175). -/
def countsAnswer (q : Request) (s : State) : Option (List Byte) :=
  (counterAt s (q.byte 2)).map fun n => valueForm (some n.toNat)

/-! ## The commands -/

/-- READ LINE. -/
def execReadLine (s : State) : Result := .next (takeRequest 0x30 3 false (answerRead lineAnswer) s)

/-- READ OUTLET. -/
def execReadOutlet (s : State) : Result := .next (takeRequest 0x31 4 false (answerRead outletAnswer) s)

/-- READ CONFIRM QUEUE. -/
def execReadConfirmQueue (s : State) : Result := .next (takeRequest 0x32 5 false (answerRead confirmAnswer) s)

/-- READ TRACK ENTRY. -/
def execReadTrackEntry (s : State) : Result := .next (takeRequest 0x33 4 false (answerRead trackAnswer) s)

/-- READ PENDING. -/
def execReadPending (s : State) : Result := .next (takeRequest 0x34 4 false (answerRead pendingAnswer) s)

/-- READ ROUTE. -/
def execReadRoute (s : State) : Result := .next (takeRequest 0x35 4 false (answerRead routeAnswer) s)

/-- READ CHANNEL. -/
def execReadChannel (s : State) : Result := .next (takeRequest 0x36 4 false (answerRead channelAnswer) s)

/-- READ BALANCE. -/
def execReadBalance (s : State) : Result := .next (takeRequest 0x37 5 false (answerRead balanceAnswer) s)

/-- READ COUNTS. -/
def execReadCounts (s : State) : Result := .next (takeRequest 0x38 3 false (answerRead countsAnswer) s)

end Sys2Proof.Machine
end

