-- ==== Sys2Proof/Machine/Sensing.lean ====
section
/-! DEFINITION. The Belt Sensing Unit (chapter 1): the encoder and the advance of B, the speed interval
with the recomputation of the leads (R62), and the filtering of the gate inputs. -/

namespace Sys2Proof.Machine

open Sys2Proof

/-! ## Encoder (R1 to R7) -/

/-- The Track Unit's handling of an advance of B: the classification pass, then retirement (R42, R53). -/
def trackAdvance (s : State) : State := retireAll (evaluateTrack s)

/-- B advances by one and the advance is counted in the present interval (R2, R7). -/
def advancePosition (s : State) : State :=
  s.onSensing fun b => { b with position := b.position + 1, intervalCount := min (b.intervalCount + 1) 65535 }

/-- An advance of B: the Admission Unit and the Track Unit each take it, in an order the manual leaves
open (R2, R31, log 3). -/
def advance (s : State) : State := inEitherOrder admissionAdvance trackAdvance (advancePosition s)

/-- A forward step repays backlash or advances B (R2). -/
def forwardStep (s : State) : State :=
  if 0 < s.sensing.debt then s.onSensing fun b => { b with debt := b.debt - 1 } else settleLine (advance s)

/-- A reverse step raises the debt, up to 255, and at 65 the REVERSE condition (R4, R5). -/
def reverseStep (s : State) : State :=
  let s1 := s.onSensing fun b => { b with debt := min (b.debt + 1) 255 }
  if s.sensing.debt = 64 then driveOutputs (raiseReverse s1) else s1

/-- The new combination becomes the previous one (R1). -/
def takePhases (phases : Phases) (s : State) : State := s.onSensing fun b => { b with previous := phases }

/-- ENCODER_EVENT (R1). -/
def execEncoderEvent (phases : Phases) (s : State) : Result :=
  match classifyStep s.sensing.previous phases with
  | .none_ => .next s
  | .forward => .next (forwardStep (takePhases phases s))
  | .reverse => .next (reverseStep (takePhases phases s))
  | .skip => .next ((takePhases phases s).onSensing fun b => { b with encoderSkip := b.encoderSkip + 1 })

/-! ## Speed (R8 to R10, R62) -/

/-- The speed ring with a count in the place of its oldest (R8). -/
def ringWith (count : Nat) (ring : Vector Nat 8) : Vector Nat 8 :=
  Vector.ofFn fun i => if h : i.val + 1 < 8 then ring[i.val + 1] else count

/-- Close the speed interval: its count enters the ring, V is formed, and the next interval begins (R8, R9). -/
def closeInterval (s : State) : State :=
  s.onSensing fun b =>
    let ring := ringWith b.intervalCount b.ring
    { b with ring := ring, intervalCount := 0, speed := speedOf (ringSum ring), intervalEnd := s.now + 32 }

/-- Recompute the lead of every outlet whose offset is present (R62). -/
def recomputeLeads (s : State) : State :=
  s.onTimings fun ts => Vector.ofFn fun k =>
    if ts[k].offset.isSome then { ts[k] with lead := leadOf ts[k].latency s.sensing.speed } else ts[k]

/-- SPEED_INTERVAL_CLOSE: it occurs at the end of the interval (R8, R10). -/
def execSpeedIntervalClose (s : State) : Result :=
  if s.sensing.intervalEnd ≤ s.now then
    .next (settleLine (evaluateTrack (recomputeLeads (closeInterval s))))
  else .next s

/-! ## Filtered inputs (R13 to R15) -/

/-- Whether a sample completes a change: it differs and finds the run at 2 (R13). -/
def completes (raw : Bool) (r : FilterRecord) : Bool := raw != r.active && r.run == 2

/-- The filter record after a sample (R13). -/
def filtered (raw : Bool) (r : FilterRecord) : FilterRecord :=
  if raw = r.active then { r with run := 0 }
  else if r.run = 2 then { active := raw, run := 0 }
  else { r with run := r.run + 1 }

/-- The position a completed GE edge is reported with, from its run's start and the last leading edge (R14). -/
def gePosition (rising : Bool) (runStart leading : Position) : Position :=
  if rising then runStart else if signedDiff runStart leading < 3 then leading + 3 else runStart

/-- The GE input takes a sample: its run start is recorded at the first sample of a run, and a completed
edge is reported with its position (R13, R14). -/
def sampleGe (raw : Bool) (b : Sensing) : Sensing :=
  let runStart := if raw != b.ge.active && b.ge.run == 0 then b.position else b.geRunStart
  if completes raw b.ge then
    let position := gePosition raw runStart b.geLeading
    { b with
      ge := filtered raw b.ge
      geRunStart := runStart
      geLeading := if raw then position else b.geLeading
      edges := b.edges ++ [{ input := .ge, rising := raw, position := position }] }
  else { b with ge := filtered raw b.ge, geRunStart := runStart }

/-- The edges the samples of one kind of input complete; `handed` tells which directions are handed to a
block (R15). -/
def completedEdges (input : OutletId → GateInput) (handed : Bool → Bool) (raws : Vector Bool 12)
    (records : Vector FilterRecord 12) : List FilteredEdge :=
  (allOutlets.filter fun k => completes raws[k] records[k] && handed raws[k]).map
    fun k => { input := input k, rising := raws[k], position := 0 }

/-- The filter records of one kind of input after their samples. -/
def filterAll (raws : Vector Bool 12) (records : Vector FilterRecord 12) : Vector FilterRecord 12 :=
  Vector.ofFn fun k => filtered raws[k] records[k]

/-- The samples of the outlets' inputs; a chute gate's falling edge is handed to no block (R13, R15). -/
def sampleOutletInputs (chutes crates readies : Vector Bool 12) (b : Sensing) : Sensing :=
  { b with
    chuteGates := filterAll chutes b.chuteGates
    crateSensors := filterAll crates b.crateSensors
    readyLines := filterAll readies b.readyLines
    edges := b.edges ++ completedEdges .chuteGate id chutes b.chuteGates ++
      completedEdges .crateSensor (fun _ => true) crates b.crateSensors ++
      completedEdges .readyLine (fun _ => true) readies b.readyLines }

/-- Hand the oldest edge that waits to its receiver (R15). A chute gate's falling edge, which has none, is dropped. -/
def handOldest (s : State) : State :=
  match s.sensing.edges with
  | [] => s
  | e :: rest =>
    match e.input, e.rising with
    | .ge, true => takeLeadingEdge s
    | .ge, false => takeTrailingEdge s
    | .chuteGate k, true => takeChuteRising k s
    | .chuteGate _, false => s.onSensing fun b => { b with edges := rest }
    | .crateSensor k, true => takeCrateRising k s
    | .crateSensor k, false => takeCrateFalling k s
    | .readyLine k, true => takeReadyRising k s
    | .readyLine k, false => takeReadyFalling k s

/-- Hand the oldest edges that wait, `n` of them. -/
def handEdges : Nat → State → State
  | 0, s => s
  | n + 1, s => handEdges n (handOldest s)

/-- INPUT_SAMPLE: the timebase passes a 1 ms boundary and each of the 37 inputs is sampled (R13). Edges of the sample
before that still wait are handed first, the oldest first, so that each edge is handed within the millisecond of the
sample that completed it (R15, log 22). That the sample comes before whatever expires at the same boundary is the
model's choice: the edges it completes are handed by commands of their own, before or after each expiry (log 1). -/
def execInputSample (ge : Bool) (chutes crates readies : Vector Bool 12) (s : State) : Result :=
  .next (((handEdges s.sensing.edges.length s).onNow (· + 1)).onSensing
    fun b => sampleOutletInputs chutes crates readies (sampleGe ge b))

end Sys2Proof.Machine
end

