-- ==== Sys2Proof/Machine/ServiceLink.lean ====
section
/-! DEFINITION. The Link Interface (chapter 11): frames in and out, requests of no block, notice masks and
the polling of notices. -/

namespace Sys2Proof.Machine

open Sys2Proof

/-! ## Frames (R170, R171, R173, R180) -/

/-- A request joins the receive queue, or counts REQUESTS LOST at a full one (R171). -/
def receiveRequest (q : Request) (s : State) : State :=
  if s.link.receiveQueue.length < 8 then
    s.onLink fun l => { l with receiveQueue := l.receiveQueue ++ [q] }
  else s.onLink fun l => { l with requestsLost := l.requestsLost + 1 }

/-- FRAME_ARRIVAL: a data frame with a request identifier is a request; every other frame is ignored (R170). -/
def execFrameArrival (frame : CanFrame) (remote : Bool) (s : State) : Result :=
  match requestStation frame.identifier with
  | none => .next s
  | some a => if remote then .next s else .next (receiveRequest { station := a, data := frame.data } s)

/-- FRAME_TRANSMISSION_BEGIN: the oldest frame begins to be sent, if there is one and none is being sent (R180). -/
def execFrameTransmissionBegin (s : State) : Result :=
  if s.link.transmitQueue.isEmpty then .next s else .next (s.onLink fun l => { l with transmitting := true })

/-- FRAME_TRANSMITTED: the frame being sent leaves the transmit queue (R173). -/
def execFrameTransmitted (s : State) : Result :=
  if s.link.transmitting then
    .next (s.onLink fun l => { l with transmitQueue := l.transmitQueue.tail, transmitting := false })
  else .next s

/-! ## Requests of no block (R170, R172) -/

/-- Whether a request is answered by its length of 0 or 1 or by a code assigned to no request (R172). -/
def Request.unassigned (q : Request) : Bool := decide (q.data.length < 2) || !assignedCodes.contains (q.byte 0)

/-- UNASSIGNED_REQUEST_CODE: BAD LENGTH for a length of 0 or 1, else UNKNOWN (R170, R172). Each is taken with 1 free
place; that this holds of the single byte 0x3F too is the model's choice (log 16). -/
def execUnassignedRequestCode (s : State) : Result :=
  match oldestRequest Request.unassigned 1 s with
  | none => .next s
  | some (q, s1) => .next (respond q (if q.data.length < 2 then .badLength else .unknown) [] s1)

/-! ## Masks and polls (R176, R178) -/

/-- SET NOTICE MASK: the sender's own mask (R176). -/
def handleSetNoticeMask (q : Request) (s : State) : State :=
  let mask : Byte := BitVec.ofNat 8 (q.byte 2)
  (respond q .done [mask] s).onStation q.station fun st => { st with mask := mask }

/-- POLL NOTICES: up to 2 pairs leave the sender's set, the flag is read and cleared, and the frames follow
the response; a poll of station 0 re-arms the overflow arm (R178, R179). -/
def handlePollNotices (q : Request) (s : State) : State :=
  let st := s.link.stations[q.station]
  let removed := st.notices.take 2
  let left := st.notices.drop 2
  let s1 := s.onStation q.station fun st => { st with notices := left, lost := false }
  let s2 := respond q .done (bytes1 removed.length ++ bytes1 (flagCode st.lost) ++ bytes1 left.length) s1
  let s3 := removed.foldl (fun s n => placeFrame (noticeFrame q.station n) s) s2
  if q.station = 0 then s3.onLink fun l => { l with overflowArm := true } else s3

/-- SET NOTICE MASK. -/
def execSetNoticeMask (s : State) : Result := .next (takeRequest 0x3E 3 false handleSetNoticeMask s)

/-- POLL NOTICES, which needs 3 free places (R171). -/
def execPollNotices (s : State) : Result := .next (takeRequestWith 3 0x3F 2 false handlePollNotices s)

end Sys2Proof.Machine
end

