-- ==== Sys2Proof/Machine/Dispatch.lean ====
section
/-! DEFINITION. The meaning of each command: one arm per constructor of Instr, one call of its meaning. -/

namespace Sys2Proof.Machine

open Sys2Proof

def exec (i : Instr) (s : State) : Host.Outcome State Fault Refusal :=
  match i with
  | .powerOn phases estopAsserted => Sys2Proof.Machine.execPowerOn phases estopAsserted s
  | .encoderEvent phases => Sys2Proof.Machine.execEncoderEvent phases s
  | .speedIntervalClose => Sys2Proof.Machine.execSpeedIntervalClose s
  | .geLeadingEdge => Sys2Proof.Machine.execGeLeadingEdge s
  | .geTrailingEdge => Sys2Proof.Machine.execGeTrailingEdge s
  | .chuteGateRising k => Sys2Proof.Machine.execChuteGateRising k s
  | .crateRemoved k => Sys2Proof.Machine.execCrateRemoved k s
  | .cratePlaced k => Sys2Proof.Machine.execCratePlaced k s
  | .readyLineRising k => Sys2Proof.Machine.execReadyLineRising k s
  | .readyLineFalling k => Sys2Proof.Machine.execReadyLineFalling k s
  | .receiveByte value framingError => Sys2Proof.Machine.execReceiveByte value framingError s
  | .frameTimerExpiry => Sys2Proof.Machine.execFrameTimerExpiry s
  | .captureMessageBegin => Sys2Proof.Machine.execCaptureMessageBegin s
  | .captureMessageSent => Sys2Proof.Machine.execCaptureMessageSent s
  | .pulseEnd k => Sys2Proof.Machine.execPulseEnd k s
  | .confirmTimeout k => Sys2Proof.Machine.execConfirmTimeout k s
  | .estopAssertion => Sys2Proof.Machine.execEstopAssertion s
  | .estopRelease => Sys2Proof.Machine.execEstopRelease s
  | .settleTimeExpiry c => Sys2Proof.Machine.execSettleTimeExpiry c s
  | .channelSample c above => Sys2Proof.Machine.execChannelSample c above s
  | .frameArrival frame remote => Sys2Proof.Machine.execFrameArrival frame remote s
  | .frameTransmitted => Sys2Proof.Machine.execFrameTransmitted s
  | .unassignedRequestCode => Sys2Proof.Machine.execUnassignedRequestCode s
  | .start => Sys2Proof.Machine.execStart s
  | .drain => Sys2Proof.Machine.execDrain s
  | .stop => Sys2Proof.Machine.execStop s
  | .resume => Sys2Proof.Machine.execResume s
  | .initializeLine => Sys2Proof.Machine.execInitializeLine s
  | .setGeometry => Sys2Proof.Machine.execSetGeometry s
  | .setSpeedCodes => Sys2Proof.Machine.execSetSpeedCodes s
  | .setAir => Sys2Proof.Machine.execSetAir s
  | .setPlaceTiming => Sys2Proof.Machine.execSetPlaceTiming s
  | .setOutletPlace => Sys2Proof.Machine.execSetOutletPlace s
  | .mask => Sys2Proof.Machine.execMask s
  | .unmask => Sys2Proof.Machine.execUnmask s
  | .setCrate => Sys2Proof.Machine.execSetCrate s
  | .reloadCrate => Sys2Proof.Machine.execReloadCrate s
  | .clearJam => Sys2Proof.Machine.execClearJam s
  | .setRoute => Sys2Proof.Machine.execSetRoute s
  | .setChannel => Sys2Proof.Machine.execSetChannel s
  | .enableChannel => Sys2Proof.Machine.execEnableChannel s
  | .channelOff => Sys2Proof.Machine.execChannelOff s
  | .issue => Sys2Proof.Machine.execIssue s
  | .adjust => Sys2Proof.Machine.execAdjust s
  | .setValue => Sys2Proof.Machine.execSetValue s
  | .setBalanceMode => Sys2Proof.Machine.execSetBalanceMode s
  | .setThreshold => Sys2Proof.Machine.execSetThreshold s
  | .clearFlags => Sys2Proof.Machine.execClearFlags s
  | .readLine => Sys2Proof.Machine.execReadLine s
  | .readOutlet => Sys2Proof.Machine.execReadOutlet s
  | .readConfirmQueue => Sys2Proof.Machine.execReadConfirmQueue s
  | .readTrackEntry => Sys2Proof.Machine.execReadTrackEntry s
  | .readPending => Sys2Proof.Machine.execReadPending s
  | .readRoute => Sys2Proof.Machine.execReadRoute s
  | .readChannel => Sys2Proof.Machine.execReadChannel s
  | .readBalance => Sys2Proof.Machine.execReadBalance s
  | .readCounts => Sys2Proof.Machine.execReadCounts s
  | .setNoticeMask => Sys2Proof.Machine.execSetNoticeMask s
  | .pollNotices => Sys2Proof.Machine.execPollNotices s
  | .inputSample ge chutes crates readies => Sys2Proof.Machine.execInputSample ge chutes crates readies s
  | .frameTransmissionBegin => Sys2Proof.Machine.execFrameTransmissionBegin s

end Sys2Proof.Machine
end

