-- ==== Sys2Proof/Safety.lean ====
section
/-! DEFINITION. The terms in which claims about the part are stated: the invariants of the manual, what a
diversion may touch, and the words for a request taken, its answer, and a filtered edge reported. -/

namespace Sys2Proof.Machine

open Sys2Proof

/-! ## Invariants -/

/-- The items the part follows: track records and confirm-queue entries (R57). -/
def itemsHeld (s : State) : Nat := s.track.records.length + (s.outlets.toList.map fun o => o.queue.length).sum

/-- The conservation of admitted items (R57). -/
def ItemsConserved (s : State) : Prop :=
  s.track.admitted = BitVec.ofNat 32 (itemsHeld s) + s.track.sorted + s.track.unconfirmed + s.track.residue +
    s.track.missed + s.track.abandoned

/-- The outlets' SORTED and UNCONFIRMED sum to the low sixteen bits of the device-level counts (R116). -/
def OutletCountsAgree (s : State) : Prop :=
  (s.outlets.toList.map fun o => o.sorted).sum = s.track.sorted.setWidth 16 ∧
    (s.outlets.toList.map fun o => o.unconfirmed).sum = s.track.unconfirmed.setWidth 16

/-- At most two diverters are energised, and none while the e-stop line is asserted or the line is in STANDBY or
HALT (R77, R91). -/
def DivertersSafe (s : State) : Prop :=
  (s.air.slots = 1 ∨ s.air.slots = 2) ∧ energisedCount s ≤ 2 ∧
    ∀ k : OutletId, energised k s = true → (s.line.state = .run ∨ s.line.state = .drain) ∧ s.line.estop = false

/-- The first row of the governor's table (R168); the track never holds more than 48 records. -/
def StoppedCondition (s : State) : Prop :=
  ¬ (s.line.state = .run ∨ s.line.state = .drain) ∨ s.line.estop = true ∨ s.line.resCopy = true ∨
    (48 ≤ s.track.records.length ∧ ∃ k : OutletId, s.air.requests[k] ≠ none)

/-- The second row of the governor's table (R168); the pending list never holds more than 4 entries. -/
def SlowCondition (s : State) : Prop :=
  s.line.slowMark ≤ s.track.records.length ∨ s.line.airCopy = true ∨ 4 ≤ s.admission.entries.length

/-- The speed reference, the governor condition and IDENT-READY are those of the present inputs (R22, R168). -/
def OutputsDriven (s : State) : Prop :=
  (StoppedCondition s → s.line.governor = .stopped ∧ s.line.speedRef = 0) ∧
  (¬ StoppedCondition s → SlowCondition s → s.line.governor = .slow ∧ s.line.speedRef = s.line.slowCode) ∧
  (¬ StoppedCondition s → ¬ SlowCondition s → s.line.governor = .run ∧ s.line.speedRef = s.line.runCode) ∧
  (s.admission.identReady = true ↔
    (s.line.state = .run ∨ s.line.state = .drain) ∧ s.admission.entries.length < 4)

/-- In STANDBY the pending list, the track and every confirm queue are empty (section 10.1). -/
def StandbyHoldsNothing (s : State) : Prop :=
  s.line.state = .standby →
    s.admission.entries = [] ∧ s.track.records = [] ∧ ∀ k : OutletId, s.outlets[k].queue = []

/-- Every accumulator, excursion and threshold is in range, and every above flag is the comparison it stands for
(R144, R145, R152). -/
def BalancesSound (s : State) : Prop :=
  ∀ c f : Fin 6,
    -32768 ≤ s.balances[c].accounts[f].value ∧ s.balances[c].accounts[f].value ≤ 32767 ∧
    -32 ≤ s.balances[c].accounts[f].excursion ∧ s.balances[c].accounts[f].excursion ≤ 31 ∧
    s.balances[c].thresholds[f] ≤ 32767 ∧
    (s.balances[c].accounts[f].aboveFlag = true ↔
      (s.balances[c].thresholds[f] : Int) < s.balances[c].accounts[f].value)

/-- Crate counts lie between 0 and the base count and are above 0 in an OPEN CRATE outlet, a HANDOFF outlet is in
one of its three states, an outlet is UNCONFIGURED exactly while its offset is absent, and the count of
consecutive unconfirmed items is at most 3 (R94, R103, R110, R114). -/
def OutletsSound (s : State) : Prop :=
  ∀ k : OutletId,
    1 ≤ s.outlets[k].baseCount ∧ s.outlets[k].baseCount ≤ 250 ∧ s.outlets[k].currentCount ≤ s.outlets[k].baseCount ∧
    (s.outlets[k].mode = .crate → s.outlets[k].state = .opened → 0 < s.outlets[k].currentCount) ∧
    (s.outlets[k].mode = .handoff →
      s.outlets[k].state = .unconfigured ∨ s.outlets[k].state = .opened ∨ s.outlets[k].state = .jammed) ∧
    (s.outlets[k].state = .unconfigured ↔ s.timing[k].offset = none) ∧
    s.outlets[k].consecutive ≤ 3

/-- The timing parameters are in range, the offsets present increase with the outlet number and lie at least 100
counts upstream of the belt end, and Q, E, M and the speed codes are in range (R60, R71, R72, R73, R169). -/
def GeometrySound (s : State) : Prop :=
  (∀ k : OutletId, s.timing[k].latency ≤ 250 ∧ s.timing[k].extension ≤ 50 ∧
    10 ≤ s.timing[k].minPulse ∧ s.timing[k].minPulse ≤ 100 ∧ 20 ≤ s.timing[k].maxPulse ∧
    s.timing[k].maxPulse ≤ 500 ∧ s.timing[k].minPulse ≤ s.timing[k].maxPulse) ∧
  (∀ (k : OutletId) (d : Nat), s.timing[k].offset = some d → 660 ≤ d ∧ d ≤ 3000 ∧
    ∀ e, s.geometry.beltEnd = some e → d + 100 ≤ e) ∧
  (∀ (j k : OutletId) (dj dk : Nat), j < k → s.timing[j].offset = some dj → s.timing[k].offset = some dk → dj < dk) ∧
  (50 ≤ s.geometry.identityOffset ∧ s.geometry.identityOffset ≤ 400) ∧
  (∀ e, s.geometry.beltEnd = some e → 700 ≤ e ∧ e ≤ 3200) ∧
  (24 ≤ s.line.slowMark ∧ s.line.slowMark ≤ 47) ∧
  (1 ≤ s.line.slowCode ∧ s.line.slowCode ≤ s.line.runCode ∧ s.line.runCode ≤ 255)

/-- A route that names an outlet names one whose offset is present and which is shared or the row's own, and an
alternate lies downstream of a primary (R117, R120). -/
def RoutesSound (s : State) : Prop :=
  ∀ (row : StationId) (c : Fin 11),
    (∀ k : OutletId, s.routes[row].entries[c].primary = some k ∨ s.routes[row].entries[c].alternate = some k →
      (∃ d, s.timing[k].offset = some d) ∧ (s.outlets[k].owner = 0 ∨ s.outlets[k].owner = row)) ∧
    (∀ a : OutletId, s.routes[row].entries[c].alternate = some a →
      ∃ p dp da, s.routes[row].entries[c].primary = some p ∧ s.timing[p].offset = some dp ∧
        s.timing[a].offset = some da ∧ dp < da)

/-- The live entries carry the capture numbers opened last, in order, at most 4 of them, and the messages not yet
begun are those of the newest of them (R17, R23, R24). -/
def CapturesSound (s : State) : Prop :=
  s.admission.entries.length ≤ 4 ∧
  (∀ i (h : i < s.admission.entries.length),
    (s.admission.entries[i]).capture =
      s.admission.captureCounter - BitVec.ofNat 4 (s.admission.entries.length - 1 - i)) ∧
  s.admission.captureQueue <:+ s.admission.entries.map (·.capture)

/-- The collections keep within their capacities, no notice set holds a pair twice, and a frame is being sent only
while there is one (R37, R171, R173, R177, R180). -/
def CapacitiesKept (s : State) : Prop :=
  s.track.records.length ≤ 48 ∧ s.link.receiveQueue.length ≤ 8 ∧ s.link.transmitQueue.length ≤ 16 ∧
  (s.link.transmitting = true → s.link.transmitQueue ≠ []) ∧
  ∀ a : StationId, s.link.stations[a].notices.length ≤ 24 ∧
    s.link.stations[a].notices.Pairwise (fun m n => ¬ (m.kind = n.kind ∧ m.subject = n.subject))

/-- The measured quantities keep within their ranges: the debt, the interval count, the ring, V, the leads and the
disagreement runs (R4, R7, R8, R9, R13, R61). -/
def QuantitiesInRange (s : State) : Prop :=
  s.sensing.debt ≤ 255 ∧ s.sensing.intervalCount ≤ 65535 ∧ (∀ i : Fin 8, s.sensing.ring[i] ≤ 65535) ∧
  s.sensing.speed ≤ 1023 ∧ (∀ k : OutletId, s.timing[k].latency ≤ 250 ∧ s.timing[k].lead ≤ 256) ∧
  s.sensing.ge.run ≤ 2 ∧
  ∀ k : OutletId, s.sensing.chuteGates[k].run ≤ 2 ∧ s.sensing.crateSensors[k].run ≤ 2 ∧
    s.sensing.readyLines[k].run ≤ 2

/-- Every REQUESTING record is the oldest of its sequence tag (R38). -/
def BidsFound (s : State) : Prop :=
  ∀ (front back : List TrackRecord) (r : TrackRecord), s.track.records = front ++ r :: back → r.state = .requesting →
    ∀ x ∈ front, x.tag ≠ r.tag

/-- Each outlet whose diverter is off presents its oldest REQUESTING record, and no other outlet presents (R50, R79). -/
def RequestsSound (s : State) : Prop :=
  BidsFound s ∧ ∀ k : OutletId, s.air.requests[k] =
    if energised k s = true then none else (oldestRequesting k s).map (·.tag)

/-- Requests are those of the track; every REQUESTING record is aimed at an outlet that is accepting, since each loss of
acceptance turns its records away; and no confirm queue holds more than 4 entries (R45, R47, R50, R94, R96, R97). -/
def BidsSound (s : State) : Prop :=
  RequestsSound s ∧
  (∀ r ∈ s.track.records, r.state = .requesting → ∃ k, r.target = some k ∧ accepting k s = true) ∧
  ∀ k : OutletId, s.outlets[k].queue.length ≤ 4

/-- The edges that wait are at most one of each input, each the one that brought the input's record to its present
level, and none is a chute gate's fall (R13, R15). -/
def EdgesSound (s : State) : Prop :=
  (s.sensing.edges.map (·.input)).Nodup ∧
  ∀ e ∈ s.sensing.edges, e.rising = (recordAt e.input s.sensing).active ∧
    ∀ k : OutletId, e.input = .chuteGate k → e.rising = true

/-- The channels' records are those of their states, and the air-wait flag and the Line Controller's copies are the
detected states of AIR and RES (R87, R133 to R138, R168). -/
def SupervisionSound (s : State) : Prop :=
  (∀ c : ChannelId,
    (s.channels[c].ready = true ↔ s.channels[c].state = .watching) ∧
    (s.channels[c].detected = true → s.channels[c].state = .watching) ∧
    (s.channels[c].settleEnd ≠ none ↔ s.channels[c].state = .settling) ∧
    (s.channels[c].nextSample ≠ none ↔ s.channels[c].state = .samplingFirst ∨ s.channels[c].state = .watching) ∧
    s.channels[c].opposing ≤ 2 ∧
    (s.channels[c].state ≠ .samplingFirst → s.channels[c].firstRun = none) ∧
    (∀ b n, s.channels[c].firstRun = some (b, n) → n = 1 ∨ n = 2)) ∧
  s.air.airWait = s.channels[airChannel].detected ∧
  s.line.airCopy = s.channels[airChannel].detected ∧ s.line.resCopy = s.channels[resChannel].detected

/-! ## What a diversion may touch -/

/-- What presenting, granting and falling back may change, and nothing else: the records of the track, the request
set, the pulses, GRANTS and the rotation mark, the last pulse records, and entries appended to confirm queues
(R47 to R52, R83). -/
structure DiversionFrame (s t : State) : Prop where
  now : t.now = s.now
  sensing : t.sensing = s.sensing
  admission : t.admission = s.admission
  track : t.track = { s.track with records := t.track.records }
  timing : ∀ k : OutletId, t.timing[k] = { s.timing[k] with lastPulse := t.timing[k].lastPulse }
  geometry : t.geometry = s.geometry
  air : t.air =
    { s.air with
      requests := t.air.requests
      pulses := t.air.pulses
      grants := t.air.grants
      rotationMark := t.air.rotationMark }
  outlets : ∀ k : OutletId, t.outlets[k] = { s.outlets[k] with queue := t.outlets[k].queue }
  queues : ∀ k : OutletId, s.outlets[k].queue <+: t.outlets[k].queue
  routes : t.routes = s.routes
  channels : t.channels = s.channels
  balances : t.balances = s.balances
  line : t.line = s.line
  link : t.link = s.link
  draws : t.draws = s.draws
  pending : t.pending = s.pending

/-- No REQUESTING record is aimed at outlet `k`. -/
def NoneBidding (k : OutletId) (s : State) : Prop :=
  ∀ r ∈ s.track.records, ¬ (r.state = .requesting ∧ r.target = some k)

/-! ## Words for requests, answers and edges -/

/-- The oldest request of the receive queue is one of `station` with the data bytes `data`, `rest` lies behind it,
and a place of the transmit queue is free (R171). -/
def State.asked (station : StationId) (data : List Byte) (rest : List Request) (s : State) : Prop :=
  s.link.receiveQueue = { station := station, data := data } :: rest ∧ s.link.transmitQueue.length < 16

/-- The response frame to `station`: the code and the tag echoed, the status, and bytes 3 to 7 (section 11.1). -/
def answer (station : StationId) (code tag : Byte) (status : Status) (results : List Byte) : CanFrame where
  identifier := BitVec.ofNat 11 (0x650 + station.val)
  data := code :: tag :: BitVec.ofNat 8 status.code :: results

/-- The five result bytes of a response that carries none. -/
def noResults : List Byte := [0, 0, 0, 0, 0]

/-- The state with the oldest request taken and its response placed at the tail of the transmit queue (R173). -/
def State.taken (rest : List Request) (reply : CanFrame) (s : State) : State :=
  { s with link := { s.link with receiveQueue := rest, transmitQueue := s.link.transmitQueue ++ [reply] } }

/-- The number of an outlet, a channel, a concession or a family as a byte: 1 and up. -/
def numberByte {n : Nat} (i : Fin n) : Byte := BitVec.ofNat 8 (i.val + 1)

/-- The code of a request row: its code and data length, whether station 0 alone may send it by the link's own
check, and the free places its taking needs (section 11.3, R171). -/
structure RequestRow where
  code     : Byte
  length   : Nat
  linkOnly : Bool
  places   : Nat
  deriving DecidableEq, Repr

/-- The request table of 11.3 and 11.4, none for the commands that are no requests and for
UNASSIGNED_REQUEST_CODE. -/
def requestRow : Instr → Option RequestRow
  | .start => some ⟨0x01, 2, true, 1⟩
  | .drain => some ⟨0x02, 2, true, 1⟩
  | .stop => some ⟨0x03, 2, true, 1⟩
  | .resume => some ⟨0x04, 2, true, 1⟩
  | .initializeLine => some ⟨0x05, 2, true, 1⟩
  | .setGeometry => some ⟨0x06, 7, true, 1⟩
  | .setSpeedCodes => some ⟨0x07, 4, true, 1⟩
  | .setAir => some ⟨0x08, 4, true, 1⟩
  | .setPlaceTiming => some ⟨0x09, 8, true, 1⟩
  | .setOutletPlace => some ⟨0x0A, 8, false, 1⟩
  | .mask => some ⟨0x10, 3, false, 1⟩
  | .unmask => some ⟨0x11, 3, false, 1⟩
  | .setCrate => some ⟨0x12, 5, false, 1⟩
  | .reloadCrate => some ⟨0x13, 3, false, 1⟩
  | .clearJam => some ⟨0x14, 3, false, 1⟩
  | .setRoute => some ⟨0x18, 7, false, 1⟩
  | .setChannel => some ⟨0x20, 8, false, 1⟩
  | .enableChannel => some ⟨0x21, 3, false, 1⟩
  | .channelOff => some ⟨0x22, 3, false, 1⟩
  | .issue => some ⟨0x28, 6, false, 1⟩
  | .adjust => some ⟨0x29, 6, false, 1⟩
  | .setValue => some ⟨0x2A, 6, false, 1⟩
  | .setBalanceMode => some ⟨0x2B, 4, false, 1⟩
  | .setThreshold => some ⟨0x2C, 6, false, 1⟩
  | .clearFlags => some ⟨0x2D, 4, false, 1⟩
  | .readLine => some ⟨0x30, 3, false, 1⟩
  | .readOutlet => some ⟨0x31, 4, false, 1⟩
  | .readConfirmQueue => some ⟨0x32, 5, false, 1⟩
  | .readTrackEntry => some ⟨0x33, 4, false, 1⟩
  | .readPending => some ⟨0x34, 4, false, 1⟩
  | .readRoute => some ⟨0x35, 4, false, 1⟩
  | .readChannel => some ⟨0x36, 4, false, 1⟩
  | .readBalance => some ⟨0x37, 5, false, 1⟩
  | .readCounts => some ⟨0x38, 3, false, 1⟩
  | .setNoticeMask => some ⟨0x3E, 3, false, 1⟩
  | .pollNotices => some ⟨0x3F, 2, false, 3⟩
  | .powerOn _ _ | .encoderEvent _ | .speedIntervalClose | .geLeadingEdge | .geTrailingEdge
  | .chuteGateRising _ | .crateRemoved _ | .cratePlaced _ | .readyLineRising _ | .readyLineFalling _
  | .receiveByte _ _ | .frameTimerExpiry | .captureMessageBegin | .captureMessageSent | .pulseEnd _
  | .confirmTimeout _ | .estopAssertion | .estopRelease | .settleTimeExpiry _ | .channelSample _ _
  | .frameArrival _ _ | .frameTransmitted | .unassignedRequestCode | .inputSample _ _ _ _
  | .frameTransmissionBegin => none

/-- An edge `e` has been reported and is the oldest of its input not yet taken; `others` are the edges reported
besides it, in their order. -/
def State.reports (e : FilteredEdge) (others : List FilteredEdge) (s : State) : Prop :=
  ∃ before after, s.sensing.edges = before ++ e :: after ∧ (∀ x ∈ before, x.input ≠ e.input) ∧
    others = before ++ after

/-- The command by which an edge is handed to its receiver; a chute gate's fall has none (R15). -/
def edgeCommand (e : FilteredEdge) : Option Instr :=
  match e.input, e.rising with
  | .ge, true => some .geLeadingEdge
  | .ge, false => some .geTrailingEdge
  | .chuteGate k, true => some (.chuteGateRising k)
  | .chuteGate _, false => none
  | .crateSensor k, true => some (.cratePlaced k)
  | .crateSensor k, false => some (.crateRemoved k)
  | .readyLine k, true => some (.readyLineRising k)
  | .readyLine k, false => some (.readyLineFalling k)

/-- The state with only the edges `others` left to be taken. -/
def State.withEdges (others : List FilteredEdge) (s : State) : State :=
  { s with sensing := { s.sensing with edges := others } }

/-- How many outlets rank above `k` when the rotation mark stands at `m`: the outlet one below the mark comes first,
down to outlet 1, then from outlet 12 down to the mark (R81). -/
def rankBelowMark (m k : OutletId) : Nat := (m.val + 11 - k.val) % 12

/-- The combination that follows another in the forward order: PHASE-1 rises while PHASE-2 is low, PHASE-2 rises
while PHASE-1 is high, PHASE-1 falls while PHASE-2 is high, PHASE-2 falls while PHASE-1 is low (section 1.1). -/
def nextForward : Phases → Phases
  | ⟨false, false⟩ => ⟨true, false⟩
  | ⟨true, false⟩ => ⟨true, true⟩
  | ⟨true, true⟩ => ⟨false, true⟩
  | ⟨false, true⟩ => ⟨false, false⟩

/-- The line state an event that halts the line leaves: the HALT that remembers RUN or DRAIN (R162, R163). -/
def haltOf : LineState → Option LineState
  | .run => some (.halt .run)
  | .drain => some (.halt .drain)
  | .standby | .halt _ => none

end Sys2Proof.Machine
end

