-- ==== Sys2Proof/Certificates/Slice0/Obligations.lean ====
section
/-! DEFINITION. The statements for the provers. Each docstring names the rules of spec/ a statement formalises or
rests on; where one rests on a choice of the model, it names the log entry. -/

open Sys2Proof Sys2Proof.Machine

/-! ## The machine -/

/-- A step takes the command at the front of the queue and runs it on the state with the rest; on an empty queue
the part idles (log 1). -/
def Obligations.StepRunsFrontCommand : Prop :=
  (∀ (c : Instr) (rest : List Instr) (s : State),
    step { s with pending := c :: rest } = exec c { s with pending := rest }) ∧
  (∀ s : State, s.pending = [] → step s = .next s)

/-- POWER_ON sets every block to its power-on values, takes the phase lines and the e-stop line as they stand, and
raises the LINE notice (R1, R3, R6, R11, R16 to R18, R22, R23, R34, R35, R59, R60, R64, R69, R73, R77 to R81, R87,
R92, R94, R117, R130, R142, R144, R145, R158, R180). Choices of the model are that the timebase restarts at
0 and the model's own draws and pending are kept (logs 1 and 11), that the reset state has both phase lines low and the
e-stop line released (log 5), and that geLeading is 0 (log 6). -/
def Obligations.PowerOnSetsEveryBlock : Prop :=
  (∀ (p : Phases) (e : Bool) (s : State), ∃ t, exec (.powerOn p e) s = .next t ∧
    t.now = 0 ∧
    t.sensing =
      { previous := p, position := 0, debt := 0, encoderSkip := 0, intervalCount := 0,
        ring := Vector.replicate 8 0, speed := 0, intervalEnd := 32, ge := { active := false, run := 0 },
        geRunStart := 0, geLeading := 0,
        chuteGates := Vector.replicate 12 { active := false, run := 0 },
        crateSensors := Vector.replicate 12 { active := false, run := 0 },
        readyLines := Vector.replicate 12 { active := false, run := 0 }, edges := [] } ∧
    t.admission =
      { entries := [], captureCounter := 0, captureQueue := [], sending := none, framing := .hunting,
        frameTimer := none, identReady := false, untracked := 0, overflow := 0, noIdentity := 0, merged := 0,
        duplicate := 0, stale := 0, badFrame := 0, badCheck := 0, pendingAbandoned := 0 } ∧
    t.track =
      { records := [], sequence := 0, admitted := 0, sorted := 0, unconfirmed := 0, residue := 0, missed := 0,
        abandoned := 0 } ∧
    (∀ k : OutletId, t.timing[k] =
      { offset := none, latency := 30, extension := 0, minPulse := 20, maxPulse := 250, lead := 0,
        lastPulse := { duration := 0, speed := 0, clamp := .none_ } }) ∧
    t.geometry = { identityOffset := 200, beltEnd := none } ∧
    t.air =
      { slots := 2, scheme := .fixed, rotationMark := 0, airWait := false, requests := Vector.replicate 12 none,
        pulses := Vector.replicate 12 none, grants := 0, pulsesCut := 0 } ∧
    (∀ k : OutletId, t.outlets[k] =
      { mode := .crate, owner := 0, confirmWindow := 300, baseCount := 60, currentCount := 60, autoreload := true,
        state := .unconfigured, masked := true, queue := [], consecutive := 0, cratesCompleted := 0, sorted := 0,
        unconfirmed := 0, overfill := 0, spill := 0, stray := 0 }) ∧
    (∀ (r : StationId), t.routes[r].revision = 0 ∧
      ∀ c : Fin 11, t.routes[r].entries[c] = { primary := none, alternate := none, minConfidence := 6 }) ∧
    (∀ c : ChannelId, t.channels[c] =
      { mode := .watch, trip := if c = airChannel then 96 else 128, release := 112, period := 8, edges := .both,
        state := .off, ready := false, detected := false, lastVerdict := .none_, detectionCount := 0,
        firstRun := none, opposing := 0, settleEnd := none, nextSample := none }) ∧
    (∀ c : Fin 6, t.balances[c].mode = .saturate ∧ ∀ f : Fin 6, t.balances[c].thresholds[f] = 32767 ∧
      t.balances[c].accounts[f] = { value := 0, excursion := 0, overFlag := false, aboveFlag := false }) ∧
    t.line =
      { state := .standby, estop := e, speedRef := 0, governor := .stopped, runCode := 96, slowCode := 32,
        slowMark := 40, airCopy := false, resCopy := false } ∧
    t.link.receiveQueue = [] ∧
    t.link.transmitQueue = [{ identifier := 0x660, data := [1, 0, 0xFF, 0, 0, 0, 0, 0] }] ∧
    t.link.transmitting = false ∧ t.link.stage = none ∧ t.link.overflowArm = true ∧
    t.link.requestsLost = 0 ∧ t.link.framesSkipped = 0 ∧
    (∀ a : StationId, t.link.stations[a].mask = 0xFF ∧ t.link.stations[a].lost = false ∧
      t.link.stations[a].notices = if a = 0 then [.line none .standby .powerOn] else []) ∧
    t.draws = s.draws ∧ t.pending = s.pending) ∧
  exec (.powerOn { phase1 := false, phase2 := false } false) State.reset = .next State.reset

/-- The invariants below hold right after reset. -/
def Obligations.ResetMeetsTheInvariants : Prop :=
  ItemsConserved State.reset ∧ OutletCountsAgree State.reset ∧ DivertersSafe State.reset ∧
  OutputsDriven State.reset ∧ StandbyHoldsNothing State.reset ∧ BalancesSound State.reset ∧
  OutletsSound State.reset ∧ GeometrySound State.reset ∧ RoutesSound State.reset ∧ CapturesSound State.reset ∧
  CapacitiesKept State.reset ∧ QuantitiesInRange State.reset ∧ SupervisionSound State.reset ∧
  EdgesSound State.reset ∧ RequestsSound State.reset ∧ BidsSound State.reset

/-! ## Invariants that every step keeps -/

/-- Every step keeps the conservation of admitted items, and the agreement of the outlets' counts with the device-level
counts (R57, R116). -/
def Obligations.StepConservesItems : Prop :=
  (∀ s t : State, ItemsConserved s → step s = .next t → ItemsConserved t) ∧
  (∀ s t : State, OutletCountsAgree s → step s = .next t → OutletCountsAgree t)

/-- After every step at most two diverters are energised, and none while the e-stop line is asserted or the line is
in STANDBY or HALT (R77, R91). -/
def Obligations.StepKeepsDivertersSafe : Prop :=
  ∀ s t : State, DivertersSafe s → step s = .next t → DivertersSafe t

/-- After every step the speed reference, the governor condition and IDENT-READY are those of the inputs (R22, R168). -/
def Obligations.StepKeepsOutputsDriven : Prop :=
  ∀ s t : State, OutputsDriven s → step s = .next t → OutputsDriven t

/-- In STANDBY the pending list, the track and every confirm queue stay empty (section 10.1). -/
def Obligations.StepKeepsStandbyEmpty : Prop :=
  ∀ s t : State, StandbyHoldsNothing s → step s = .next t → StandbyHoldsNothing t

/-- Every step keeps the accumulators and thresholds in range and the above flags true (R144, R145, R152). -/
def Obligations.StepKeepsBalancesSound : Prop :=
  ∀ s t : State, BalancesSound s → step s = .next t → BalancesSound t

/-- Every step keeps the crate counts in range and the outlet states those of their modes (R94, R103, R110, R114). -/
def Obligations.StepKeepsOutletsSound : Prop :=
  ∀ s t : State, OutletsSound s → step s = .next t → OutletsSound t

/-- Every step keeps the timing parameters in range and the offsets in order upstream of the belt end, and with them
every route one that can be followed and names no foreign outlet (R60, R71 to R73, R117, R120, R124, R126, R169). -/
def Obligations.StepKeepsGeometryAndRoutes : Prop :=
  (∀ s t : State, GeometrySound s → step s = .next t → GeometrySound t) ∧
  (∀ s t : State, GeometrySound s → RoutesSound s → step s = .next t → RoutesSound t)

/-- Every step keeps the capture numbers of the live entries consecutive and the message queue that of the newest
entries; the track, the queues and the notice sets within their capacities; the debt, the interval count, the
ring, V, the leads and the filter runs in range; the edges that wait at most one of each input; each request of the set
that of the oldest REQUESTING record aimed at an outlet whose diverter is off; every REQUESTING record aimed at an
accepting outlet; and at most 4 entries in every confirm queue (R4, R7 to R9, R13, R15, R17, R23, R24, R37, R45, R47,
R50, R61, R79, R94, R96, R97, R171, R173, R177). That edges wait at all is log 22. -/
def Obligations.StepKeepsCapacitiesAndRanges : Prop :=
  (∀ s t : State, CapturesSound s → step s = .next t → CapturesSound t) ∧
  (∀ s t : State, CapacitiesKept s → step s = .next t → CapacitiesKept t) ∧
  (∀ s t : State, QuantitiesInRange s → step s = .next t → QuantitiesInRange t) ∧
  (∀ s t : State, EdgesSound s → step s = .next t → EdgesSound t) ∧
  (∀ s t : State, RequestsSound s → step s = .next t → RequestsSound t) ∧
  (∀ s t : State, BidsSound s → step s = .next t → BidsSound t)

/-- Every step keeps each channel's record that of its state, and the air-wait flag and the copies of AIR and RES
the detected states of those channels (R87, R133 to R138, R168). -/
def Obligations.StepKeepsSupervisionSound : Prop :=
  ∀ s t : State, SupervisionSound s → step s = .next t → SupervisionSound t

/-! ## Rules of the whole machine -/

/-- B is changed by advances alone: a forward step with a debt of 0 raises it by 1, modulo 1,048,576, and no other
command but POWER_ON changes it (R2, R3). -/
def Obligations.PositionMovesByAdvancesAlone : Prop :=
  ∀ (c : Instr) (s t : State), exec c s = .next t → (∀ p e, c ≠ .powerOn p e) →
    t.sensing.position =
      if c = .encoderEvent (nextForward s.sensing.previous) ∧ s.sensing.debt = 0 then s.sensing.position + 1
      else s.sensing.position

/-- HALT is left by RESUME, with the e-stop line released and a debt of 0, to the resume state (or past a completed
drain to STANDBY), by STOP and by INITIALIZE, and by nothing else but POWER_ON (section 10.1). -/
def Obligations.HaltIsLeftByRequestsAlone : Prop :=
  ∀ (c : Instr) (s t : State) (r : ResumeState), exec c s = .next t → s.line.state = .halt r →
    t.line.state ≠ .halt r →
    (c = .resume ∧ s.line.estop = false ∧ s.sensing.debt = 0 ∧
      (t.line.state = r.lineState ∨ (r = .drain ∧ t.line.state = .standby))) ∨
    ((c = .stop ∨ c = .initializeLine ∨ ∃ p e, c = .powerOn p e) ∧ t.line.state = .standby)

/-- A refused request changes nothing but that it is taken and answered, and the response of a request carried out
stands ahead of every frame its handling places (R172, R173). INITIALIZE, which is never refused by its block, is
stated apart. -/
def Obligations.RefusedRequestChangesNothing : Prop :=
  ∀ (c : Instr) (row : RequestRow) (s : State) (station : StationId) (tag : Byte) (args : List Byte)
    (rest : List Request),
    requestRow c = some row → c ≠ .initializeLine →
    s.link.receiveQueue = { station := station, data := row.code :: tag :: args } :: rest →
    s.link.transmitQueue.length + row.places ≤ 16 →
    ∃ (t : State) (status : Status) (results : List Byte),
      exec c s = .next t ∧ results.length = 5 ∧
      (status ≠ .done → results = noResults ∧ t = s.taken rest (answer station row.code tag status results)) ∧
      (status = .done → t.link.receiveQueue = rest ∧
        s.link.transmitQueue ++ [answer station row.code tag .done results] <+: t.link.transmitQueue)

/-! ## Operations that several commands share -/

/-- At the end of an event the outputs are those of the table, and in DRAIN with the pending list, the track and
every confirm queue empty the line first moves to STANDBY with the DRAIN DONE notice and a cut (R22, R161, R168). That
the outputs are driven once an event is log 7, and that the completion test is made once, at its end, is log 8. -/
def Obligations.EventEndsWithDrainTestAndOutputs : Prop :=
  (∀ s : State, OutputsDriven (driveOutputs s) ∧
    driveOutputs s =
      { s with
        line := { s.line with speedRef := (driveOutputs s).line.speedRef, governor := (driveOutputs s).line.governor }
        admission := { s.admission with identReady := (driveOutputs s).admission.identReady } }) ∧
  (∀ s : State, OutputsDriven s → driveOutputs s = s) ∧
  (∀ s : State, s.line.state = .drain → s.admission.entries = [] → s.track.records = [] →
    (∀ k : OutletId, s.outlets[k].queue = []) →
    settleLine s =
      driveOutputs (cutPulses (raiseNotice (.line (some .drain) .standby .drainDone)
        { s with line := { s.line with state := .standby } }))) ∧
  (∀ s : State, ¬ (s.line.state = .drain ∧ s.admission.entries = [] ∧ s.track.records = [] ∧
      ∀ k : OutletId, s.outlets[k].queue = []) →
    settleLine s = driveOutputs s)

/-- A notice is handled for its owner's station and for station 0: where the mask enables its kind, its pair is
entered unless it is present, or sets the notices-lost flag at 24 pairs, and its frame is placed or counted as
skipped; nothing else changes. A frame carries its identifier, its kind, its subject and its detail, with 0 behind them
(R170, R173, R176, R177, section 11.5). -/
def Obligations.NoticesAreEnteredAndSent : Prop :=
  (∀ (k : OutletId) (n : Nat) (m : ShortCount) (s : State),
    addressees (.crateFull k n m) s = (if s.outlets[k].owner = 0 then [0] else [s.outlets[k].owner, 0]) ∧
    addressees (.jam k m) s = (if s.outlets[k].owner = 0 then [0] else [s.outlets[k].owner, 0])) ∧
  (∀ (c : ChannelId) (ev : ChannelEvent) (a b : Nat) (v : Verdict) (s : State),
    addressees (.channel c ev a b) s = addressees (.checkDone c v) s ∧
    (c = airChannel ∨ c = resChannel → addressees (.channel c ev a b) s = [0]) ∧
    (∀ k : OutletId, c.val = k.val → addressees (.channel c ev a b) s = addressees (.jam k 0) s)) ∧
  (∀ (c f : Fin 6) (v x : Int) (n : Nat) (s : State), addressees (.balanceHigh c f v x n) s = [c.succ, 0]) ∧
  (∀ (o : Option LineState) (l : LineState) (why : LineCause) (n : Nat) (d : DeviceCount) (s : State),
    addressees (.line o l why) s = [0] ∧ addressees (.fault n l) s = [0] ∧ addressees (.overflow n d) s = [0]) ∧
  (∀ (n : Notice) (s : State),
    raiseNotice n s =
      { s with
        link :=
          { s.link with
            transmitQueue := (raiseNotice n s).link.transmitQueue
            stations := (raiseNotice n s).link.stations
            framesSkipped := (raiseNotice n s).link.framesSkipped } } ∧
    (∀ a : StationId,
      (raiseNotice n s).link.stations[a] =
        if a ∈ addressees n s ∧ s.link.stations[a].mask.getLsbD (n.kind - 1) = true then
          if s.link.stations[a].notices.any (fun m => m.kind == n.kind && m.subject == n.subject) then
            s.link.stations[a]
          else if s.link.stations[a].notices.length < 24 then
            { s.link.stations[a] with notices := s.link.stations[a].notices ++ [n] }
          else { s.link.stations[a] with lost := true }
        else s.link.stations[a]) ∧
    (let wanted :=
      (addressees n s).filter fun a => s.link.stations[a].mask.getLsbD (n.kind - 1)
     let placed := wanted.take (16 - s.link.transmitQueue.length)
     (raiseNotice n s).link.transmitQueue = s.link.transmitQueue ++ placed.map (fun a => noticeFrame a n) ∧
     (raiseNotice n s).link.framesSkipped =
       s.link.framesSkipped + BitVec.ofNat 32 (wanted.length - placed.length))) ∧
  -- the table of notices of 11.5
  (let high (n : Nat) : Byte := BitVec.ofNat 8 (n / 256)
   let low (n : Nat) : Byte := BitVec.ofNat 8 n
   let lineCode (l : LineState) : Byte := match l with | .standby => 0 | .run => 1 | .drain => 2 | .halt _ => 3
   let causeCode (c : LineCause) : Byte := match c with
     | .powerOn => 0 | .start => 1 | .drain => 2 | .drainDone => 3 | .stop => 4 | .resume => 5 | .estop => 6
     | .reverse => 7 | .initialize_ => 8
   let eventCode (e : ChannelEvent) : Byte := match e with | .detect => 0 | .release => 1 | .stoppedWhileDetected => 2
   let verdictCode (v : Verdict) : Byte := match v with | .none_ => 0 | .clear => 1 | .detected => 2
   ∀ (a : StationId) (k : OutletId) (c : ChannelId) (i f : Fin 6) (o : Option LineState) (l : LineState)
     (why : LineCause) (ev : ChannelEvent) (v : Verdict) (n m : Nat) (x y : Int) (d : DeviceCount) (e : ShortCount),
     let frame (data : List Byte) : CanFrame := { identifier := BitVec.ofNat 11 (0x660 + a.val), data := data }
     noticeFrame a (.line o l why) =
       frame [1, 0, (match o with | some old => lineCode old | none => 0xFF), lineCode l, causeCode why, 0, 0, 0] ∧
     noticeFrame a (.fault n l) = frame [2, 0, low n, lineCode l, 0, 0, 0, 0] ∧
     noticeFrame a (.overflow n d) =
       frame [3, 0, low n, low (d.toNat / 16777216), low (d.toNat / 65536), high d.toNat, low d.toNat, 0] ∧
     noticeFrame a (.crateFull k n e) = frame [4, numberByte k, low n, high e.toNat, low e.toNat, 0, 0, 0] ∧
     noticeFrame a (.jam k e) = frame [5, numberByte k, high e.toNat, low e.toNat, 0, 0, 0, 0] ∧
     noticeFrame a (.channel c ev n m) = frame [6, numberByte c, eventCode ev, low n, low m, 0, 0, 0] ∧
     noticeFrame a (.checkDone c v) = frame [7, numberByte c, verdictCode v, 0, 0, 0, 0, 0] ∧
     noticeFrame a (.balanceHigh i f x y n) =
       frame [8, numberByte i * 16 + numberByte f, high (BitVec.ofInt 16 x).toNat, BitVec.ofInt 8 x, BitVec.ofInt 8 y,
         high n, low n, 0])

/-- A cut de-energises every diverter, counts each output cut, and turns the PULSING entry of each cut item into
AWAITING with its deadline the confirm window from now; outlets whose diverter was off keep their request (R89,
R98). -/
def Obligations.CutDeEnergisesEveryDiverter : Prop :=
  ∀ s : State,
    cutPulses s =
      { s with
        air :=
          { s.air with
            pulses := Vector.replicate 12 none
            pulsesCut := s.air.pulsesCut + BitVec.ofNat 32 (energisedCount s)
            requests := (cutPulses s).air.requests }
        outlets := (cutPulses s).outlets } ∧
    ∀ k : OutletId,
      (s.air.pulses[k] = none →
        (cutPulses s).outlets[k] = s.outlets[k] ∧ (cutPulses s).air.requests[k] = s.air.requests[k]) ∧
      (∀ p, s.air.pulses[k] = some p →
        (cutPulses s).outlets[k] =
          { s.outlets[k] with
            queue := s.outlets[k].queue.map fun e =>
              if e.tag = p.tag ∧ e.phase = .pulsing then
                { e with phase := .awaiting (s.now + s.outlets[k].confirmWindow) }
              else e } ∧
        (cutPulses s).air.requests[k] = (oldestRequesting k s).map (·.tag))

/-- An examination grants while a slot is free, a request is in the set, air wait is off, the line is in RUN or
DRAIN and the e-stop line is released, and it grants the request that ranks first: under FIXED as with the mark at
outlet 1; after a grant the conditions are tested once more, and otherwise nothing changes (R80, R81). -/
def Obligations.ExaminationGrantsInOrder : Prop :=
  ∀ s : State,
    (energisedCount s < s.air.slots ∧ s.air.airWait = false ∧
        (s.line.state = .run ∨ s.line.state = .drain) ∧ s.line.estop = false →
      ∀ k : OutletId, s.air.requests[k] ≠ none →
        (∀ j : OutletId, j ≠ k → s.air.requests[j] ≠ none →
          rankBelowMark (if s.air.scheme = .fixed then 0 else s.air.rotationMark) k <
            rankBelowMark (if s.air.scheme = .fixed then 0 else s.air.rotationMark) j) →
        examine s = grantOne (grant k s)) ∧
    (¬ (energisedCount s < s.air.slots ∧ (∃ k : OutletId, s.air.requests[k] ≠ none) ∧ s.air.airWait = false ∧
        (s.line.state = .run ∨ s.line.state = .drain) ∧ s.line.estop = false) →
      examine s = s)

/-- A grant removes the request, computes the pulse and writes the last pulse record, energises the diverter for
the pulse duration, moves the item from the track to the confirm queue as PULSING, moves the rotation mark under
ROTATING and counts GRANTS; while the outlet goes on accepting, or was not, nothing else changes; the fourth entry of an
accepting outlet turns its other REQUESTING records away. That their presentations elsewhere start no examination inside
the grant is log 4 (R47, R52, R83, R97). -/
def Obligations.GrantMovesTheItem : Prop :=
  ∀ (k : OutletId) (tag : SequenceTag) (r : TrackRecord) (front back : List TrackRecord) (s : State),
    s.air.requests[k] = some tag → s.track.records = front ++ r :: back → r.tag = tag →
    (∀ x ∈ front, x.tag ≠ tag) →
    let p := pulseOf (halfFootprint r.footprint) s.sensing.speed s.timing[k].extension s.timing[k].minPulse
      s.timing[k].maxPulse
    let u : State :=
      { s with
        timing := s.timing.set k { s.timing[k] with lastPulse := p }
        track := { s.track with records := front ++ back }
        air :=
          { s.air with
            requests := s.air.requests.set k none
            pulses := s.air.pulses.set k (some { tag := tag, pulseEnd := s.now + p.duration })
            rotationMark := if s.air.scheme = .rotating then k else s.air.rotationMark
            grants := s.air.grants + 1 }
        outlets := s.outlets.set k
          { s.outlets[k] with
            queue := s.outlets[k].queue ++
              [{ tag := tag, owner := r.owner, wareClass := r.wareClass, phase := .pulsing }] } }
    (accepting k s = false ∨ s.outlets[k].queue.length ≠ 3 → grant k s = u) ∧
    DiversionFrame u (grant k s) ∧ (grant k s).air.grants = u.air.grants ∧
    (grant k s).air.pulses = u.air.pulses ∧ (grant k s).air.rotationMark = u.air.rotationMark ∧
    (grant k s).timing = u.timing ∧ (grant k s).outlets = u.outlets ∧
    (accepting k s = true → s.outlets[k].queue.length = 3 → BidsFound s → NoneBidding k (grant k s))

/-- At a loss of acceptance every REQUESTING record aimed at the outlet is turned away: under air wait, when no grant
follows, each takes fallback and every other record stays; the requests are then again those of the track. The fallback of
a record goes to its alternate, if that is present, configured and not yet passed and the mark is clear, and else to
residue (R47 to R51). -/
def Obligations.LossTurnsEveryBidAway : Prop :=
  (∀ (k : OutletId) (s : State), accepting k s = false → BidsFound s →
    NoneBidding k (lossOfAcceptance present k s) ∧ DiversionFrame s (lossOfAcceptance present k s) ∧
    (s.air.airWait = true →
      (lossOfAcceptance present k s).track.records =
        (s.track.records.map fun r =>
          if r.state = .requesting ∧ r.target = some k then fallbackRecord r s else r)) ∧
    (RequestsSound s → RequestsSound (lossOfAcceptance present k s))) ∧
  (∀ (r : TrackRecord) (s : State), r.alternate = none ∨ r.fallback = true →
    fallbackRecord r s = { r with target := none, state := .toResidue, fallback := true }) ∧
  (∀ (r : TrackRecord) (j : OutletId) (s : State), r.alternate = some j → r.fallback = false →
    (s.outlets[j].state = .unconfigured ∨ classify j r s = .passed →
      fallbackRecord r s = { r with target := none, state := .toResidue, fallback := true }) ∧
    (s.outlets[j].state ≠ .unconfigured → classify j r s = .notYet →
      fallbackRecord r s = { r with target := some j, state := .waiting, fallback := true }) ∧
    (s.outlets[j].state ≠ .unconfigured → classify j r s = .inWindow →
      fallbackRecord r s =
        if accepting j s then { r with target := some j, state := .requesting, fallback := true }
        else { r with target := none, state := .toResidue, fallback := true }))

/-- The evaluation of one record: a TO_RESIDUE record, a record not yet at its window and a REQUESTING record in window
stay; a WAITING record in window at an accepting outlet becomes REQUESTING and its outlet presents; every other record
that has reached its window falls back, its request withdrawn, and the outlets it leaves and reaches present, in an order
that is the model's choice (log 23). An outlet presents its oldest REQUESTING record while its diverter is off, and a new
request is examined for a grant. A classification pass evaluates the records from head to tail; under air wait no grant
follows, and each record of a track without equal tags is evaluated as it stood (R42 to R44, R46, R49 to R51, R80). -/
def Obligations.WindowEvaluationActs : Prop :=
  let evaluated (r : TrackRecord) (s : State) : TrackRecord :=
    match r.target with
    | none => r
    | some k =>
      match r.state, classify k r s with
      | .toResidue, _ | .waiting, .notYet | .requesting, .notYet | .requesting, .inWindow => r
      | .waiting, .inWindow => if accepting k s then { r with state := .requesting } else fallbackRecord r s
      | .waiting, .passed | .requesting, .passed => fallbackRecord r s
  (∀ (r : TrackRecord) (front back : List TrackRecord) (s : State),
    s.track.records = front ++ r :: back → (∀ x ∈ front, x.tag ≠ r.tag) →
    let withRecord (r' : TrackRecord) : State := { s with track := { s.track with records := front ++ r' :: back } }
    (r.target = none → evaluateRecord s r.tag = s) ∧
    (∀ k, r.target = some k →
      let stays := r.state = .toResidue ∨ classify k r s = .notYet ∨ (r.state = .requesting ∧ classify k r s = .inWindow)
      let bids := r.state = .waiting ∧ classify k r s = .inWindow ∧ accepting k s = true
      (stays → evaluateRecord s r.tag = s) ∧
      (bids → evaluateRecord s r.tag = present k (withRecord { r with state := .requesting })) ∧
      (¬ stays → ¬ bids →
        let r' := fallbackRecord r s
        let v := (withRecord r').onAir fun a =>
          { a with requests := if a.requests[k] = some r.tag then a.requests.set k none else a.requests }
        let w := if r.state = .requesting then present k v else v
        (∀ j, r'.state = .requesting → r'.target = some j → evaluateRecord s r.tag = present j w) ∧
        (r'.state ≠ .requesting → evaluateRecord s r.tag = w))) ∧
    (s.air.airWait = true →
      (evaluateRecord s r.tag).track.records = front ++ evaluated r s :: back ∧
      (evaluateRecord s r.tag).air.pulses = s.air.pulses) ∧
    DiversionFrame s (evaluateRecord s r.tag) ∧
    (RequestsSound s → RequestsSound (evaluateRecord s r.tag))) ∧
  (∀ (k : OutletId) (s : State),
    let presenting (request : Option SequenceTag) : State := s.onAir fun a => { a with requests := a.requests.set k request }
    (energised k s = true → present k s = s) ∧
    (energised k s = false → oldestRequesting k s = none → present k s = presenting none) ∧
    (energised k s = false → ∀ r, oldestRequesting k s = some r →
      (s.air.requests[k] = some r.tag → present k s = s) ∧
      (s.air.requests[k] ≠ some r.tag → present k s = examine (presenting (some r.tag))))) ∧
  (∀ s : State,
    evaluateTrack s = (s.track.records.map fun r => r.tag).foldl evaluateRecord s ∧
    (s.air.airWait = true → (s.track.records.map fun r => r.tag).Nodup →
      (evaluateTrack s).track.records = s.track.records.map fun r => evaluated r s))

/-- At the retirements of an advance, while the records past the belt end bid for no jet, exactly the leading
records past the belt end leave the track: TO_RESIDUE with the mark clear counts RESIDUE, every other MISSED (R53). -/
def Obligations.RetirementCountsOutcomes : Prop :=
  ∀ s : State,
    (∀ r ∈ s.track.records.takeWhile (fun r => pastBeltEnd r s), r.state ≠ .requesting) →
    retireAll s =
      { s with
        track :=
          { s.track with
            records := s.track.records.dropWhile fun r => pastBeltEnd r s
            residue := s.track.residue +
              BitVec.ofNat 32 ((s.track.records.takeWhile fun r => pastBeltEnd r s).countP fun r =>
                r.state == .toResidue && !r.fallback)
            missed := s.track.missed +
              BitVec.ofNat 32 ((s.track.records.takeWhile fun r => pastBeltEnd r s).countP fun r =>
                !(r.state == .toResidue && !r.fallback)) } }

/-- A pending entry let go at a track with room is removed with its queued message and admitted: NO IDENTITY is
counted without a record, MERGED above a footprint of 400, and a record with the next tag, the centre, the route of
its owner and class and its target is appended, counted ADMITTED, evaluated, and returned to the Balance Unit; at a
full track it is discarded as OVERFLOW. The return is an add of -1, in the concession's mode, to the accumulator of the
owner and the family of the class, with its above flag evaluated and BALANCE HIGH raised when that goes from clear to
set; an item without an owner or without a family makes none (R28 to R32, R38 to R40, R146, R148, R152). -/
def Obligations.AdmissionCreatesTheRecord : Prop :=
  ∀ (e : PendingEntry) (rest : List PendingEntry) (s : State),
    let f := (signedDiff (e.trailing.getD s.sensing.position) e.leading).toNat
    let found : Identity := e.record.getD { wareClass := .unknown, owner := 0, confidence := 0 }
    let i : Identity := if 400 < f then { wareClass := .unknown, owner := 0, confidence := 0 } else found
    let route := s.routes[i.owner].entries[i.wareClass.code]
    let target : Option OutletId :=
      match route.primary with
      | none => none
      | some k =>
        if i.wareClass = .unknown ∨ i.confidence < route.minConfidence ∨ s.outlets[k].state = .unconfigured then none
        else some k
    let r : TrackRecord :=
      { tag := s.track.sequence + 1
        footprint := min f 400
        centre := e.leading + BitVec.ofNat 20 (min f 400 / 2)
        wareClass := i.wareClass
        owner := i.owner
        confidence := i.confidence
        primary := route.primary
        alternate := route.alternate
        target := target
        state := if target = none then .toResidue else .waiting
        fallback := false }
    let a : Admission :=
      { s.admission with entries := rest, captureQueue := s.admission.captureQueue.erase e.capture }
    (s.track.records.length < 48 →
      letGo e rest s =
        returnItem i.owner i.wareClass
          (evaluateRecord
            { s with
              admission :=
                { a with
                  noIdentity := if e.record = none then a.noIdentity + 1 else a.noIdentity
                  merged := if 400 < f then a.merged + 1 else a.merged }
              track :=
                { s.track with
                  records := s.track.records ++ [r]
                  sequence := s.track.sequence + 1
                  admitted := s.track.admitted + 1 } }
            r.tag)) ∧
    (48 ≤ s.track.records.length →
      let u : State := { s with admission := { a with overflow := a.overflow + 1 } }
      letGo e rest s =
        if s.line.state = .run ∧ s.link.overflowArm = true then
          raiseNotice (.overflow 7 (a.overflow + 1)) { u with link := { u.link with overflowArm := false } }
        else u) ∧
    -- the return to the Balance Unit
    (let family : Option (Fin 6) :=
      match i.wareClass with
      | .largePlate | .sidePlate => some 0
      | .bowl => some 1
      | .cup | .saucer => some 2
      | .glass => some 3
      | .cutlery => some 4
      | .tray => some 5
      | .unknown | .disposable | .foodWaste => none
     (i.owner = 0 ∨ family = none → ∀ v : State, returnItem i.owner i.wareClass v = v) ∧
     (∀ c g : Fin 6, i.owner = c.succ → family = some g → ∀ v : State,
      let old := v.balances[c].accounts[g]
      let threshold := v.balances[c].thresholds[g]
      let added := addAmount v.balances[c].mode (-1) old
      let new : Accumulator := { added with aboveFlag := decide ((threshold : Int) < added.value) }
      let w := v.onBalance c fun b => { b with accounts := b.accounts.set g new }
      returnItem i.owner i.wareClass v =
        if old.aboveFlag = false ∧ new.aboveFlag = true then
          raiseNotice (.balanceHigh c g new.value new.excursion threshold) w
        else w))

/-- An item admitted no more than Q counts past the gate has not reached its window at any outlet a placement
allows, whatever its footprint and the lead; the classification is that of the three belt positions; and a falling
lead passes no window (R43, R65, R66, R74). -/
def Obligations.WindowsLieAheadOfAdmission : Prop :=
  (∀ (b pl : Position) (f d lead q : Nat), 3 ≤ f → f ≤ 400 → 660 ≤ d → d ≤ 3000 → lead ≤ 256 → q ≤ 400 →
    0 ≤ signedDiff b pl → signedDiff b pl ≤ q →
    windowOf (signedDiff b (downstreamBy (downstreamBy pl (f / 2)) d)) (halfFootprint f) lead = .notYet) ∧
  (∀ (b point : Position) (h lead : Nat), h ≤ 200 → lead ≤ 256 →
    -400000 ≤ signedDiff b point → signedDiff b point ≤ 400000 →
    (windowOf (signedDiff b point) h lead = .notYet ↔
      signedDiff b (point - BitVec.ofNat 20 (h + lead)) < 0) ∧
    (windowOf (signedDiff b point) h lead = .inWindow ↔
      0 ≤ signedDiff b (point - BitVec.ofNat 20 (h + lead)) ∧ signedDiff b (point - BitVec.ofNat 20 lead) ≤ 0) ∧
    (windowOf (signedDiff b point) h lead = .passed ↔
      0 ≤ signedDiff b (point - BitVec.ofNat 20 lead + 1))) ∧
  (∀ (r : Int) (h lead lower : Nat), lower ≤ lead → windowOf r h lead ≠ .passed → windowOf r h lower ≠ .passed)

/-- The lead is floor((L × V + 500) / 1,000): the latency's belt travel rounded to the nearest count with an exact half
rounded up, from 0 to 256 in the ranges of L and V, and 0 at a latency of 0, at a speed of 0, and at speeds of 1 to 3
for latencies up to 166 (R61). -/
def Obligations.LeadRoundsToTheNearestCount : Prop :=
  ∀ latency speed : Nat,
    leadOf latency speed = (latency * speed + 500) / 1000 ∧
    2 * 1000 * leadOf latency speed ≤ 2 * (latency * speed) + 1000 ∧
    2 * (latency * speed) < 2 * 1000 * leadOf latency speed + 1000 ∧
    (latency ≤ 250 → speed ≤ 1023 → latency * speed ≤ 255750 ∧ leadOf latency speed ≤ 256) ∧
    (latency = 0 ∨ speed = 0 ∨ (speed ≤ 3 ∧ latency ≤ 166) → leadOf latency speed = 0)

/-- The travel time is the least whole number of milliseconds not less than h × 1,000 / V; and a pulse is its sum with
the extension, clamped, or Pmax below a speed of 10, with the clamp that says which (R67 to R69). -/
def Obligations.PulsesAreTravelTimesClamped : Prop :=
  (∀ h v : Nat, 1 ≤ h → 10 ≤ v →
    h * 1000 ≤ travelTime h v * v ∧ ∀ n : Nat, h * 1000 ≤ n * v → travelTime h v ≤ n) ∧
  (∀ h v x lo hi : Nat, lo ≤ hi →
    (pulseOf h v x lo hi).speed = v ∧
    (v < 10 → (pulseOf h v x lo hi).duration = hi ∧ (pulseOf h v x lo hi).clamp = .lowSpeed) ∧
    (10 ≤ v →
      (pulseOf h v x lo hi).duration = max lo (min hi (travelTime h v + x)) ∧
      ((pulseOf h v x lo hi).clamp = .raised ↔ travelTime h v + x < lo) ∧
      ((pulseOf h v x lo hi).clamp = .cut ↔ hi < travelTime h v + x) ∧
      ((pulseOf h v x lo hi).clamp = .none_ ↔ lo ≤ travelTime h v + x ∧ travelTime h v + x ≤ hi)))

/-- An add within the amounts a master or a return can carry leaves the value in range, clamps it in SATURATE, keeps
the true balance in WRAP while the excursion is not held, and sets the over flag exactly when the exact sum leaves
the range (R146, R147). -/
def Obligations.AddsClampOrWrap : Prop :=
  ∀ (mode : BalanceMode) (amount : Int) (a : Accumulator),
    -32768 ≤ a.value → a.value ≤ 32767 → -32 ≤ a.excursion → a.excursion ≤ 31 → -4095 ≤ amount → amount ≤ 4095 →
    let b := addAmount mode amount a
    (-32768 ≤ b.value ∧ b.value ≤ 32767 ∧ -32 ≤ b.excursion ∧ b.excursion ≤ 31) ∧
    b.aboveFlag = a.aboveFlag ∧
    (b.overFlag = true ↔ a.overFlag = true ∨ 32767 < a.value + amount ∨ a.value + amount < -32768) ∧
    (mode = .saturate → b.value = max (-32768) (min 32767 (a.value + amount)) ∧ b.excursion = a.excursion) ∧
    (mode = .wrap →
      (a.excursion < 31 ∨ a.value + amount ≤ 32767) → (-32 < a.excursion ∨ -32768 ≤ a.value + amount) →
      b.value + 65536 * b.excursion = a.value + 65536 * a.excursion + amount) ∧
    (mode = .wrap → b.value % 65536 = (a.value + amount) % 65536)

/-- At an owner change of outlet `k` every entry, in a row to which `k` is now foreign, that names `k` is reset: a
primary goes to residue and takes the alternate with it, an alternate goes alone, the minimum confidence is kept,
and each row changed has its revision raised once (R117, R124). -/
def Obligations.OwnerChangeResetsForeignRoutes : Prop :=
  ∀ (k : OutletId) (owner : StationId) (s : State),
    resetForeignRoutes k owner s = { s with routes := (resetForeignRoutes k owner s).routes } ∧
    ∀ row : StationId,
      (owner = 0 ∨ owner = row → (resetForeignRoutes k owner s).routes[row] = s.routes[row]) ∧
      (owner ≠ 0 → owner ≠ row →
        (∀ c : Fin 11,
          (resetForeignRoutes k owner s).routes[row].entries[c] =
            (let e := s.routes[row].entries[c]
             if e.primary = some k then { e with primary := none, alternate := none }
             else if e.alternate = some k then { e with alternate := none }
             else e)) ∧
        (resetForeignRoutes k owner s).routes[row].revision =
          if ∃ c : Fin 11, s.routes[row].entries[c].primary = some k ∨ s.routes[row].entries[c].alternate = some k
          then s.routes[row].revision + 1 else s.routes[row].revision)

/-! ## Belt sensing -/

/-- A skip counts ENCODER SKIP, a forward step at a debt above 0 repays one count, a reverse step raises the debt up
to 255, and lines that stand as before are no event (log 2); none of them moves B or reaches another block, but for
the reverse step from 64 to 65: it raises the FAULT notice in every line state, and in RUN and DRAIN halts the line
with a LINE notice of cause REVERSE and cuts every pulse (R1, R2, R4, R5, R163). That the FAULT notice stands ahead of
the LINE notice is log 10. -/
def Obligations.EncoderStepsWithoutAdvance : Prop :=
  (∀ (p : Phases) (s : State),
     (p = s.sensing.previous → exec (.encoderEvent p) s = .next s) ∧
     (p.phase1 ≠ s.sensing.previous.phase1 → p.phase2 ≠ s.sensing.previous.phase2 →
       exec (.encoderEvent p) s =
         .next (s.onSensing fun b => { b with previous := p, encoderSkip := b.encoderSkip + 1 })) ∧
     (p = nextForward s.sensing.previous → 0 < s.sensing.debt →
       exec (.encoderEvent p) s = .next (s.onSensing fun b => { b with previous := p, debt := b.debt - 1 })) ∧
     (s.sensing.previous = nextForward p → s.sensing.debt ≠ 64 →
       exec (.encoderEvent p) s = .next (s.onSensing fun b => { b with previous := p, debt := min (b.debt + 1) 255 }))) ∧
  (∀ (p : Phases) (s : State), s.sensing.previous = nextForward p → s.sensing.debt = 64 →
     let u := raiseNotice (.fault 65 s.line.state) (s.onSensing fun b => { b with previous := p, debt := 65 })
     (∀ h, haltOf s.line.state = some h →
       exec (.encoderEvent p) s =
         .next (driveOutputs (cutPulses (raiseNotice (.line (some s.line.state) h .reverse)
           (u.onLine fun l => { l with state := h }))))) ∧
     (haltOf s.line.state = none → exec (.encoderEvent p) s = .next (driveOutputs u)))

/-- A forward step at a debt of 0 advances B by one, modulo 1,048,576, counts it in the interval, and hands it to the
Admission Unit and the Track Unit, in either order (log 3). The Admission Unit examines the head in RUN and DRAIN, and in
HALT discards each head carried 3,200 counts as PENDING ABANDONED with its queued message; the Track Unit evaluates its
records and then retires. An advance leaves the timebase, the rest of belt sensing, the geometry, the routes, the
channels, the timing parameters and leads, and all of the outlet records but their queues, and on an empty belt outside
DRAIN it changes nothing else (R2, R7, R17, R27, R33, R42, R53). The count of draws is the model's own (log 3). -/
def Obligations.AdvanceMovesTheBeltByOne : Prop :=
  (∀ (p : Phases) (s : State), p = nextForward s.sensing.previous → s.sensing.debt = 0 →
    let sensed : Sensing :=
      { s.sensing with
        previous := p
        position := s.sensing.position + 1
        intervalCount := min (s.sensing.intervalCount + 1) 65535 }
    let v : State := { s with sensing := sensed, draws := s.draws + 1 }
    ∃ t, exec (.encoderEvent p) s = .next t ∧
      (t = settleLine (trackAdvance (admissionAdvance v)) ∨ t = settleLine (admissionAdvance (trackAdvance v))) ∧
      t.sensing = sensed ∧ t.draws = s.draws + 1 ∧
      t.now = s.now ∧ t.geometry = s.geometry ∧ t.routes = s.routes ∧ t.channels = s.channels ∧
      t.pending = s.pending ∧ t.link.receiveQueue = s.link.receiveQueue ∧
      (∀ k : OutletId, t.timing[k] = { s.timing[k] with lastPulse := t.timing[k].lastPulse } ∧
        t.outlets[k] = { s.outlets[k] with queue := t.outlets[k].queue }) ∧
      (OutputsDriven s → s.admission.entries = [] → s.track.records = [] → s.line.state ≠ .drain →
        t = { s with sensing := t.sensing, draws := s.draws + 1 })) ∧
  -- what each of the two units does with an advance
  (∀ w : State,
    trackAdvance w = retireAll (evaluateTrack w) ∧
    (w.line.state = .run ∨ w.line.state = .drain → admissionAdvance w = examineHead w) ∧
    (w.line.state = .standby ∨ w.admission.entries = [] → admissionAdvance w = w) ∧
    (∀ r, w.line.state = .halt r → ∀ (e : PendingEntry) (rest : List PendingEntry), w.admission.entries = e :: rest →
      (3200 ≤ signedDiff w.sensing.position e.leading →
        admissionAdvance w = admissionAdvance (w.onAdmission fun a =>
          { a with
            entries := rest
            captureQueue := a.captureQueue.erase e.capture
            pendingAbandoned := a.pendingAbandoned + 1 })) ∧
      (signedDiff w.sensing.position e.leading < 3200 → admissionAdvance w = w)))

/-- At the close of an interval the count takes the place of the oldest in the ring, V is the ring sum times 125 / 32
rounded down and saturated at 1,023, and the lead of every outlet with an offset is recomputed; a window evaluation of
the whole track follows. The timing parameters, the geometry, the routes, the channels, the balances and the pending
list are left; an interval that has not come to its end does not close (R8 to R10, R42, R61, R62, log 2). -/
def Obligations.IntervalCloseMeasuresSpeed : Prop :=
  ∀ s : State,
    (s.sensing.intervalEnd ≤ s.now →
      ∃ v t, exec .speedIntervalClose s = .next t ∧ t = settleLine (evaluateTrack v) ∧
        v = { s with sensing := v.sensing, timing := v.timing } ∧
        v.sensing = { s.sensing with
          ring := v.sensing.ring
          intervalCount := 0
          speed := v.sensing.speed
          intervalEnd := s.now + 32 } ∧
        (∀ i : Fin 7, v.sensing.ring[i.castSucc] = s.sensing.ring[i.succ]) ∧
        v.sensing.ring[(7 : Fin 8)] = s.sensing.intervalCount ∧
        v.sensing.speed = min (v.sensing.ring.toList.sum * 125 / 32) 1023 ∧
        (∀ k : OutletId,
          v.timing[k] =
            { s.timing[k] with
              lead :=
                if s.timing[k].offset = none then s.timing[k].lead
                else (s.timing[k].latency * v.sensing.speed + 500) / 1000 } ∧
          t.timing[k] = { v.timing[k] with lastPulse := t.timing[k].lastPulse } ∧
          t.outlets[k] = { s.outlets[k] with queue := t.outlets[k].queue }) ∧
        t.sensing = v.sensing ∧ t.now = s.now ∧ t.geometry = s.geometry ∧ t.routes = s.routes ∧
        t.channels = s.channels ∧ t.balances = s.balances ∧ t.admission.entries = s.admission.entries ∧
        t.pending = s.pending) ∧
    (s.now < s.sensing.intervalEnd → exec .speedIntervalClose s = .next s)

/-- Each 1 ms boundary samples all 37 inputs: a sample that agrees ends the run, a differing sample lengthens it, and
the third in a row changes the filtered state and is reported; a GE edge carries the position of its run's first
sample, a trailing edge one at least 3 counts past its leading edge; a chute gate's fall is handed to no block
(R12 to R15). Edges of the sample before that still wait are handed first, each as by its own command, and an input
reads as before its edge while that waits (log 22). That the boundary advances the timebase is the model's reading
(log 1). -/
def Obligations.InputSampleFiltersEveryInput : Prop :=
  (∀ (ge : Bool) (chutes crates readies : Vector Bool 12) (s : State), QuantitiesInRange s → s.sensing.edges = [] →
    let next (raw : Bool) (r : FilterRecord) : FilterRecord :=
      if raw = r.active then { r with run := 0 }
      else if r.run < 2 then { r with run := r.run + 1 }
      else { active := raw, run := 0 }
    let done (raw : Bool) (r : FilterRecord) : Prop := raw ≠ r.active ∧ r.run = 2
    let start := if ge ≠ s.sensing.ge.active ∧ s.sensing.ge.run = 0 then s.sensing.position else s.sensing.geRunStart
    let place :=
      if ge = true then start
      else if signedDiff start s.sensing.geLeading < 3 then s.sensing.geLeading + 3 else start
    ∃ t, exec (.inputSample ge chutes crates readies) s = .next t ∧
      t = { s with now := s.now + 1, sensing := t.sensing } ∧
      t.sensing =
        { s.sensing with
          ge := next ge s.sensing.ge
          geRunStart := start
          geLeading := if ge = true ∧ s.sensing.ge.active = false ∧ s.sensing.ge.run = 2 then start else s.sensing.geLeading
          chuteGates := t.sensing.chuteGates
          crateSensors := t.sensing.crateSensors
          readyLines := t.sensing.readyLines
          edges := t.sensing.edges } ∧
      (∀ k : OutletId,
        t.sensing.chuteGates[k] = next chutes[k] s.sensing.chuteGates[k] ∧
        t.sensing.crateSensors[k] = next crates[k] s.sensing.crateSensors[k] ∧
        t.sensing.readyLines[k] = next readies[k] s.sensing.readyLines[k]) ∧
      ∃ new : List FilteredEdge, t.sensing.edges = new ∧ (new.map (·.input)).Nodup ∧
        ∀ e : FilteredEdge, e ∈ new ↔
          (e = { input := .ge, rising := ge, position := place } ∧ done ge s.sensing.ge) ∨
          ∃ k : OutletId,
            (e = { input := .chuteGate k, rising := true, position := 0 } ∧ chutes[k] = true ∧
              done chutes[k] s.sensing.chuteGates[k]) ∨
            (e = { input := .crateSensor k, rising := crates[k], position := 0 } ∧
              done crates[k] s.sensing.crateSensors[k]) ∨
            (e = { input := .readyLine k, rising := readies[k], position := 0 } ∧
              done readies[k] s.sensing.readyLines[k])) ∧
  (∀ (ge : Bool) (chutes crates readies : Vector Bool 12) (e : FilteredEdge) (rest : List FilteredEdge) (c : Instr)
    (s : State), s.sensing.edges = e :: rest → edgeCommand e = some c →
    ∃ t, exec c s = .next t ∧ t.sensing.edges = rest ∧
      exec (.inputSample ge chutes crates readies) s = exec (.inputSample ge chutes crates readies) t) ∧
  (∀ (input : GateInput) (s : State),
    ((∀ e ∈ s.sensing.edges, e.input ≠ input) → filteredState input s = (recordAt input s.sensing).active) ∧
    (∀ (e : FilteredEdge) (others : List FilteredEdge), s.reports e others → e.input = input →
      filteredState input s = !e.rising))

/-! ## Identification and admission -/

/-- A leading edge opens a pending entry with the next capture number and queues its message in RUN with room;
otherwise it counts UNTRACKED, and in RUN the overflow arm decides on a notice (R23, R24, R35, R179). -/
def Obligations.LeadingEdgeOpensEntry : Prop :=
  ∀ (p : Position) (others : List FilteredEdge) (s : State),
    s.reports { input := .ge, rising := true, position := p } others →
    let u := s.withEdges others
    let n := s.admission.captureCounter + 1
    let counted := u.onAdmission fun a => { a with untracked := a.untracked + 1 }
    (s.line.state = .run → s.admission.entries.length < 4 →
      exec .geLeadingEdge s =
        .next (driveOutputs (u.onAdmission fun a =>
          { a with
            captureCounter := n
            entries := a.entries ++ [{ capture := n, leading := p, trailing := none, record := none }]
            captureQueue := a.captureQueue ++ [n] }))) ∧
    (s.line.state = .run → 4 ≤ s.admission.entries.length →
      exec .geLeadingEdge s =
        .next (if s.link.overflowArm = true then
            raiseNotice (.overflow 6 (s.admission.untracked + 1))
              (counted.onLink fun l => { l with overflowArm := false })
          else counted)) ∧
    (s.line.state ≠ .run → exec .geLeadingEdge s = .next counted)

/-- A trailing edge gives its position to the newest entry that lacks one, or to none, in every line state; the head
is examined when the edge is the head's (R25, R27). -/
def Obligations.TrailingEdgeGivesPosition : Prop :=
  ∀ (p : Position) (others : List FilteredEdge) (s : State),
    s.reports { input := .ge, rising := false, position := p } others →
    let u := s.withEdges others
    ((∀ e ∈ s.admission.entries, e.trailing ≠ none) → exec .geTrailingEdge s = .next u) ∧
    (∀ (front back : List PendingEntry) (e : PendingEntry),
      s.admission.entries = front ++ e :: back → e.trailing = none → (∀ x ∈ back, x.trailing ≠ none) →
      let v := u.onAdmission fun a => { a with entries := front ++ { e with trailing := some p } :: back }
      (front ≠ [] → exec .geTrailingEdge s = .next v) ∧
      (front = [] → exec .geTrailingEdge s = .next (settleLine (examineHead v)))) ∧
    -- the examination lets the head go in RUN and DRAIN when it is complete or its deadline is reached (R27 to R29)
    (∀ (e : PendingEntry) (rest : List PendingEntry) (w : State), w.admission.entries = e :: rest →
      let goes := (e.trailing ≠ none ∧ e.record ≠ none) ∨
        (w.geometry.identityOffset : Int) ≤ signedDiff w.sensing.position e.leading
      (w.line.state = .run ∨ w.line.state = .drain) → (goes → examineHead w = examineHead (letGo e rest w)) ∧
        (¬ goes → examineHead w = w)) ∧
    (∀ w : State, w.admission.entries = [] ∨ ¬ (w.line.state = .run ∨ w.line.state = .drain) → examineHead w = w)

/-- A received byte is hunted for the mark or collected with the frame timer started again; a framing error during
collection, or a timer that expires, discards the record as BAD FRAME; at the sixth byte a wrong check or a capture
number above 15 counts BAD CHECK, and an accepted record counts STALE or DUPLICATE or is attached, its fields made
safe, and completes the head. A capture message begins on a free line, oldest first, and one sent frees the line; what
is not due does not occur (R17 to R21, R26, R27, log 2). -/
def Obligations.IdentityPortIsServed : Prop :=
  (∀ (b : Byte) (s : State),
     (s.admission.framing = .hunting →
       exec (.receiveByte b true) s = .next s ∧
       (b ≠ 0xC3 → exec (.receiveByte b false) s = .next s) ∧
       (b = 0xC3 → exec (.receiveByte b false) s = .next (s.onAdmission fun a =>
         { a with framing := .collecting [0xC3], frameTimer := some (s.now + 6) }))) ∧
     (∀ taken, s.admission.framing = .collecting taken →
       exec (.receiveByte b true) s = .next (s.onAdmission fun a =>
         { a with framing := .hunting, frameTimer := none, badFrame := a.badFrame + 1 }) ∧
       (taken.length < 5 → exec (.receiveByte b false) s = .next (s.onAdmission fun a =>
         { a with framing := .collecting (taken ++ [b]), frameTimer := some (s.now + 6) }))) ∧
     (∀ m n c o q : Byte, s.admission.framing = .collecting [m, n, c, o, q] →
       let u := s.onAdmission fun a => { a with framing := .hunting, frameTimer := none }
       let cls := if c.toNat ≤ 10 then WareClass.ofCode c.toNat else .unknown
       let identity : Identity :=
         { wareClass := cls
           owner := if h : o.toNat < 7 then
               (if cls = .unknown ∨ cls = .disposable ∨ cls = .foodWaste then 0 else ⟨o.toNat, h⟩)
             else 0
           confidence := if h : q.toNat < 16 then ⟨q.toNat, h⟩ else 0 }
       (¬ (b = n + c + o + q ∧ n.toNat < 16) →
         exec (.receiveByte b false) s = .next (u.onAdmission fun a => { a with badCheck := a.badCheck + 1 })) ∧
       (b = n + c + o + q → n.toNat < 16 →
         ((∀ e ∈ s.admission.entries, e.capture.toNat ≠ n.toNat) →
           exec (.receiveByte b false) s = .next (u.onAdmission fun a => { a with stale := a.stale + 1 })) ∧
         (∀ (front back : List PendingEntry) (e : PendingEntry), s.admission.entries = front ++ e :: back →
           e.capture.toNat = n.toNat → (∀ x ∈ front ++ back, x.capture.toNat ≠ n.toNat) →
           (e.record ≠ none →
             exec (.receiveByte b false) s = .next (u.onAdmission fun a => { a with duplicate := a.duplicate + 1 })) ∧
           (e.record = none →
             let v := u.onAdmission fun a => { a with entries := front ++ { e with record := some identity } :: back }
             (front ≠ [] → exec (.receiveByte b false) s = .next v) ∧
             (front = [] → exec (.receiveByte b false) s = .next (settleLine (examineHead v)))))))) ∧
  (∀ s : State,
     (∀ (n : CaptureNumber) (rest : List CaptureNumber), s.admission.sending = none →
       s.admission.captureQueue = n :: rest →
       exec .captureMessageBegin s = .next (s.onAdmission fun a =>
         { a with captureQueue := rest, sending := some (0x3C, n.setWidth 8) })) ∧
     (s.admission.sending ≠ none ∨ s.admission.captureQueue = [] → exec .captureMessageBegin s = .next s) ∧
     exec .captureMessageSent s = .next (s.onAdmission fun a => { a with sending := none }) ∧
     (∀ d, s.admission.frameTimer = some d → d ≤ s.now →
       exec .frameTimerExpiry s = .next (s.onAdmission fun a =>
         { a with framing := .hunting, frameTimer := none, badFrame := a.badFrame + 1 })) ∧
     ((∀ d, s.admission.frameTimer = some d → s.now < d) → exec .frameTimerExpiry s = .next s)
)

/-! ## Pulses, the e-stop line and the outlets -/

/-- At the end of outlet `k`'s pulse its diverter is de-energised, its PULSING entry of that tag becomes AWAITING with
the deadline the confirm window from now, the freed slot is offered to the requests in the set and then to the
outlet's oldest REQUESTING record; under air wait that record is presented and nothing is granted. A pulse that has
not come to its end, or that does not run, ends nothing (R85, R98, log 2). That the requests in the set come before
the outlet's own presentation is log 9. -/
def Obligations.PulseEndFreesTheDiverter : Prop :=
  ∀ (k : OutletId) (s : State),
    (∀ p, s.air.pulses[k] = some p → p.pulseEnd ≤ s.now →
      let u := (s.onAir fun a => { a with pulses := a.pulses.set k none }).onOutlet k fun o =>
        { o with
          queue := o.queue.map fun e =>
            if e.tag = p.tag ∧ e.phase = .pulsing then { e with phase := .awaiting (s.now + o.confirmWindow) } else e }
      exec (.pulseEnd k) s = .next (settleLine (present k (examine u))) ∧
      DiversionFrame u (present k (examine u)) ∧
      (s.air.airWait = true →
        present k (examine u) =
          u.onAir fun a => { a with requests := a.requests.set k ((oldestRequesting k s).map (·.tag)) })) ∧
    (∀ p, s.air.pulses[k] = some p → s.now < p.pulseEnd → exec (.pulseEnd k) s = .next s) ∧
    (s.air.pulses[k] = none → exec (.pulseEnd k) s = .next s)

/-- An e-stop assertion in RUN or DRAIN halts the line with a LINE notice of cause E-STOP, and in every state cuts every
pulse; a release moves no state, cuts nothing and grants nothing; both reach the governor (R89, R162, R168). -/
def Obligations.EstopLineHaltsAndCuts : Prop :=
  ∀ s : State,
    (∀ h, haltOf s.line.state = some h →
      exec .estopAssertion s =
        .next (driveOutputs (cutPulses (raiseNotice (.line (some s.line.state) h .estop)
          (s.onLine fun l => { l with estop := true, state := h }))))) ∧
    (haltOf s.line.state = none →
      exec .estopAssertion s = .next (driveOutputs (cutPulses (s.onLine fun l => { l with estop := true })))) ∧
    exec .estopRelease s = .next (driveOutputs (s.onLine fun l => { l with estop := false }))

/-- An outlet that enters FULL raises CRATES COMPLETED and the CRATE FULL notice with its count of places, one that
enters JAMMED the JAM notice, and each turns away its REQUESTING records exactly when it was accepting before. At its
first placement, at a change of mode and at CLEAR JAM an outlet enters OPEN in HANDOFF mode, and in CRATE mode SWAP
without a crate, FULL with one that has no place left, and else OPEN (R96, R102, R104, R109, R114). The crate sensor
reads as before an edge of it that waits (log 22). -/
def Obligations.OutletsEnterTheirStates : Prop :=
  (∀ (k : OutletId) (before : Bool) (s : State),
     (let full := raiseNotice (.crateFull k s.outlets[k].currentCount (s.outlets[k].cratesCompleted + 1))
         (s.onOutlet k fun o => { o with state := .full, cratesCompleted := o.cratesCompleted + 1 })
      enterFull k before s = if before = true then lossOfAcceptance present k full else full) ∧
     (let jammed := raiseNotice (.jam k s.outlets[k].unconfirmed) (s.onOutlet k fun o => { o with state := .jammed })
      enterJam k before s = if before = true then lossOfAcceptance present k jammed else jammed)) ∧
  (∀ (k : OutletId) (s : State),
     (s.outlets[k].mode = .handoff → enterByMode k s = s.onOutlet k fun o => { o with state := .opened }) ∧
     (s.outlets[k].mode = .crate → filteredState (.crateSensor k) s = false →
       enterByMode k s = s.onOutlet k fun o => { o with state := .swap }) ∧
     (s.outlets[k].mode = .crate → filteredState (.crateSensor k) s = true →
       (s.outlets[k].currentCount ≠ 0 → enterByMode k s = s.onOutlet k fun o => { o with state := .opened }) ∧
       (s.outlets[k].currentCount = 0 →
         enterByMode k s =
           raiseNotice (.crateFull k 0 (s.outlets[k].cratesCompleted + 1))
             (s.onOutlet k fun o => { o with state := .full, cratesCompleted := o.cratesCompleted + 1 }))))

/-- A rising chute-gate edge of a configured CRATE outlet removes the oldest entry as SORTED and deals with the crate by
its state: SPILL with no crate in place, OVERFILL in FULL or at a count of 0, else one place less, and FULL when the
last place of an OPEN crate is taken; with an empty queue it is a STRAY, which takes a place but counts nothing else.
At an UNCONFIGURED outlet and at a HANDOFF outlet it has no effect (R57, R99, R100, R103). The crate sensor reads as
before an edge of it that waits (log 22). -/
def Obligations.ChuteGateConfirms : Prop :=
  ∀ (k : OutletId) (others : List FilteredEdge) (s : State),
    s.reports { input := .chuteGate k, rising := true, position := 0 } others →
    let u := s.withEdges others
    let o := s.outlets[k]
    let inPlace := o.state = .opened ∨ o.state = .full ∨ o.state = .held ∨
      (o.state = .jammed ∧ filteredState (.crateSensor k) s = true)
    let takenFrom (v : State) : State :=
      let w := v.onOutlet k fun o => { o with currentCount := o.currentCount - 1 }
      if o.state = .opened ∧ o.currentCount = 1 then enterFull k (accepting k s) w else w
    (o.mode = .handoff → exec (.chuteGateRising k) s = .next u) ∧
    (o.mode = .crate → o.state = .unconfigured → exec (.chuteGateRising k) s = .next (settleLine u)) ∧
    (o.mode = .crate → o.state ≠ .unconfigured →
      (∀ e rest, o.queue = e :: rest →
        let v := (u.onOutlet k fun o => { o with queue := rest, sorted := o.sorted + 1, consecutive := 0 }).onTrack
          fun t => { t with sorted := t.sorted + 1 }
        (¬ inPlace →
          exec (.chuteGateRising k) s = .next (settleLine (v.onOutlet k fun o => { o with spill := o.spill + 1 }))) ∧
        (inPlace → (o.state = .full ∨ o.currentCount = 0) →
          exec (.chuteGateRising k) s =
            .next (settleLine (v.onOutlet k fun o => { o with overfill := o.overfill + 1 }))) ∧
        (inPlace → o.state ≠ .full → 0 < o.currentCount →
          exec (.chuteGateRising k) s = .next (settleLine (takenFrom v)))) ∧
      (o.queue = [] →
        let v := u.onOutlet k fun o => { o with stray := o.stray + 1 }
        ((inPlace ∧ o.state ≠ .full ∧ 0 < o.currentCount) →
          exec (.chuteGateRising k) s = .next (settleLine (takenFrom v))) ∧
        (¬ (inPlace ∧ o.state ≠ .full ∧ 0 < o.currentCount) →
          exec (.chuteGateRising k) s = .next (settleLine v))))

/-- A rising ready line reports nothing; a falling one at a configured HANDOFF outlet confirms its oldest entry as SORTED
or is a STRAY, with no crate, and is a loss of acceptance if the outlet was accepting before it and is not after it. The
line reads active until its fall is taken and inactive from then on. At an UNCONFIGURED outlet it confirms nothing, and
at a CRATE outlet it has no effect (R15, R57, R96, R99, R100, R110, log 22). -/
def Obligations.ReadyLineConfirms : Prop :=
  (∀ (k : OutletId) (others : List FilteredEdge) (s : State),
    s.reports { input := .readyLine k, rising := true, position := 0 } others →
    exec (.readyLineRising k) s = .next (s.withEdges others)) ∧
  (∀ (k : OutletId) (others : List FilteredEdge) (s : State),
    s.reports { input := .readyLine k, rising := false, position := 0 } others →
    let u := s.withEdges others
    let o := s.outlets[k]
    let lost (v : State) : State :=
      if accepting k s = true ∧ accepting k v = false then lossOfAcceptance present k v else v
    (filteredState (.readyLine k) s = true ∧ (EdgesSound s → filteredState (.readyLine k) u = false)) ∧
    (∀ input, input ≠ .readyLine k → filteredState input u = filteredState input s) ∧
    (o.mode = .crate → exec (.readyLineFalling k) s = .next u) ∧
    (o.mode = .handoff → o.state = .unconfigured → exec (.readyLineFalling k) s = .next (settleLine u)) ∧
    (o.mode = .handoff → o.state ≠ .unconfigured →
      (∀ e rest, o.queue = e :: rest →
        exec (.readyLineFalling k) s = .next (settleLine (lost
          ((u.onOutlet k fun o => { o with queue := rest, sorted := o.sorted + 1, consecutive := 0 }).onTrack
            fun t => { t with sorted := t.sorted + 1 })))) ∧
      (o.queue = [] →
        exec (.readyLineFalling k) s = .next (settleLine (lost
          (u.onOutlet k fun o => { o with stray := o.stray + 1 }))))))

/-- The timeout of the oldest AWAITING entry, the head of its queue, removes it as UNCONFIRMED and raises the count of
consecutive unconfirmed items up to 3; brought from 2 to 3 in OPEN, the outlet jams. An entry that is PULSING or whose
deadline has not come does not time out (R57, R101, R102, log 2). -/
def Obligations.ConfirmTimeoutGivesUp : Prop :=
  ∀ (k : OutletId) (s : State),
    (∀ (e : ConfirmEntry) (rest : List ConfirmEntry) (d : Nat), s.outlets[k].queue = e :: rest →
      e.phase = .awaiting d → d ≤ s.now →
      let v := (s.onOutlet k fun o =>
          { o with queue := rest, unconfirmed := o.unconfirmed + 1, consecutive := min (o.consecutive + 1) 3 }).onTrack
        fun t => { t with unconfirmed := t.unconfirmed + 1 }
      exec (.confirmTimeout k) s =
        .next (settleLine (if s.outlets[k].consecutive = 2 ∧ s.outlets[k].state = .opened then
          enterJam k (accepting k s) v else v))) ∧
    ((∀ e rest d, s.outlets[k].queue = e :: rest → e.phase = .awaiting d → s.now < d) →
      exec (.confirmTimeout k) s = .next s)

/-- A crate removed from an OPEN, FULL or HELD CRATE outlet leaves it in SWAP, with the loss of an accepting one; a
crate placed at one in SWAP leaves it HELD, or under autoreload fresh and OPEN, or JAMMED when a jam is owed. In every
other state, and at a HANDOFF outlet, the edges have no effect (R96, R102, R105, R106). -/
def Obligations.CrateEdgesMoveTheOutlet : Prop :=
  (∀ (k : OutletId) (others : List FilteredEdge) (s : State),
    s.reports { input := .crateSensor k, rising := false, position := 0 } others →
    let u := s.withEdges others
    let o := s.outlets[k]
    let v := u.onOutlet k fun o => { o with state := .swap }
    (o.mode = .crate ∧ (o.state = .opened ∨ o.state = .full ∨ o.state = .held) →
      exec (.crateRemoved k) s =
        .next (driveOutputs (if accepting k s = true then lossOfAcceptance present k v else v))) ∧
    (¬ (o.mode = .crate ∧ (o.state = .opened ∨ o.state = .full ∨ o.state = .held)) →
      exec (.crateRemoved k) s = .next u)) ∧
  (∀ (k : OutletId) (others : List FilteredEdge) (s : State),
    s.reports { input := .crateSensor k, rising := true, position := 0 } others →
    let u := s.withEdges others
    let o := s.outlets[k]
    (o.mode = .crate → o.state = .swap →
      (o.autoreload = false →
        exec (.cratePlaced k) s = .next (u.onOutlet k fun o => { o with state := .held })) ∧
      (o.autoreload = true → o.consecutive ≠ 3 →
        exec (.cratePlaced k) s =
          .next (u.onOutlet k fun o => { o with currentCount := o.baseCount, state := .opened })) ∧
      (o.autoreload = true → o.consecutive = 3 →
        exec (.cratePlaced k) s =
          .next (raiseNotice (.jam k o.unconfirmed)
            (u.onOutlet k fun o => { o with currentCount := o.baseCount, state := .jammed })))) ∧
    (¬ (o.mode = .crate ∧ o.state = .swap) → exec (.cratePlaced k) s = .next u))

/-! ## Level supervision -/

/-- The settle time's expiry starts the samples; a sample that leaves the run short of three lengthens or restarts it,
one that agrees with the verdict sets the opposing count to 0, and one that opposes it short of three raises it; the
next instant follows by the period. An expiry or a sample that is not due does not occur (R128, R134, R135, R138,
log 2). -/
def Obligations.ChannelSamplesAreCounted : Prop :=
  ∀ (c : ChannelId) (above : Bool) (s : State),
    let ch := s.channels[c]
    let shown := if c = airChannel then !above else above
    (ch.state = .settling → ∀ t, ch.settleEnd = some t →
      (t ≤ s.now → exec (.settleTimeExpiry c) s = .next (s.onChannel c fun ch =>
        { ch with state := .samplingFirst, settleEnd := none, firstRun := none,
                  nextSample := some (s.now + ch.period) })) ∧
      (s.now < t → exec (.settleTimeExpiry c) s = .next s)) ∧
    (ch.state ≠ .settling ∨ ch.settleEnd = none → exec (.settleTimeExpiry c) s = .next s) ∧
    (∀ t, ch.nextSample = some t → t ≤ s.now →
      let w := s.onChannel c fun ch => { ch with nextSample := some (s.now + ch.period) }
      (ch.state = .samplingFirst →
        (ch.firstRun = none ∨ (∃ n, ch.firstRun = some (!shown, n)) →
          exec (.channelSample c above) s =
            .next (driveOutputs (w.onChannel c fun ch => { ch with firstRun := some (shown, 1) }))) ∧
        (∀ n, ch.firstRun = some (shown, n) → n < 2 →
          exec (.channelSample c above) s =
            .next (driveOutputs (w.onChannel c fun ch => { ch with firstRun := some (shown, n + 1) })))) ∧
      (ch.state = .watching →
        (shown = ch.detected →
          exec (.channelSample c above) s = .next (driveOutputs (w.onChannel c fun ch => { ch with opposing := 0 }))) ∧
        (shown ≠ ch.detected → ch.opposing < 2 →
          exec (.channelSample c above) s =
            .next (driveOutputs (w.onChannel c fun ch => { ch with opposing := ch.opposing + 1 }))))) ∧
    ((∀ t, ch.nextSample = some t → s.now < t) → exec (.channelSample c above) s = .next s)

/-- The third agreeing sample gives the first verdict: WATCH goes on to WATCHING with it, the checks return to OFF, and
CHECK-REPORT or a detected CHECK-ALERT raises CHECK DONE. The third opposing sample in WATCHING changes the verdict.
A detection makes an OPEN CRATE outlet FULL, turns air wait on or reaches the Line Controller, raises the detection
count and the CHANNEL notice of its setting; a release turns air wait off and examines for a grant (R87, R136 to
R140). That the CHANNEL notice stands behind the CRATE FULL notice is log 10. -/
def Obligations.ChannelVerdictsAct : Prop :=
  (∀ (c : ChannelId) (above : Bool) (t : Nat) (s : State), s.channels[c].nextSample = some t → t ≤ s.now →
    let ch := s.channels[c]
    let shown := if c = airChannel then !above else above
    let verdict : Verdict := if shown = true then .detected else .clear
    let w := s.onChannel c fun ch => { ch with nextSample := some (s.now + ch.period), lastVerdict := verdict }
    let off := w.onChannel c fun ch =>
      { ch with state := .off, ready := false, detected := false, firstRun := none, opposing := 0, settleEnd := none,
                nextSample := none }
    (ch.state = .samplingFirst → ch.firstRun = some (shown, 2) →
      (ch.mode = .watch →
        let v := w.onChannel c fun ch =>
          { ch with state := .watching, ready := true, detected := shown, firstRun := none, opposing := 0 }
        exec (.channelSample c above) s = .next (driveOutputs (if shown = true then detection c v else v))) ∧
      (ch.mode = .checkReport ∨ (ch.mode = .checkAlert ∧ shown = true) →
        exec (.channelSample c above) s = .next (driveOutputs (raiseNotice (.checkDone c verdict) off))) ∧
      (ch.mode = .checkAlert → shown = false →
        exec (.channelSample c above) s = .next (driveOutputs off))) ∧
    (ch.state = .watching → shown ≠ ch.detected → ch.opposing = 2 →
      let v := w.onChannel c fun ch => { ch with detected := shown, opposing := 0 }
      exec (.channelSample c above) s =
        .next (driveOutputs (if shown = true then detection c v else releaseVerdict c v)))) ∧
  (∀ (c : ChannelId) (v : State),
    let ch := v.channels[c]
    let reported (x : State) : State :=
      let counted := x.onChannel c fun ch => { ch with detectionCount := ch.detectionCount + 1 }
      if ch.edges = .detect ∨ ch.edges = .both then raiseNotice (.channel c .detect ch.trip ch.release) counted
      else counted
    (∀ k : OutletId, k.val = c.val →
      (v.outlets[k].mode = .crate → v.outlets[k].state = .opened →
        detection c v = reported (enterFull k (accepting k v) v)) ∧
      (¬ (v.outlets[k].mode = .crate ∧ v.outlets[k].state = .opened) → detection c v = reported v)) ∧
    (c = airChannel → detection c v = reported
      ((v.onLine fun l => { l with airCopy := true }).onAir fun a => { a with airWait := true })) ∧
    (c = resChannel → detection c v = reported (v.onLine fun l => { l with resCopy := true }))) ∧
  (∀ (c : ChannelId) (v : State),
    let ch := v.channels[c]
    let noticed (x : State) : State :=
      if ch.edges = .release ∨ ch.edges = .both then raiseNotice (.channel c .release ch.trip ch.release) x else x
    (c ≠ airChannel → c ≠ resChannel → releaseVerdict c v = noticed v) ∧
    (c = airChannel → releaseVerdict c v = noticed (examine
      ((v.onLine fun l => { l with airCopy := false }).onAir fun a => { a with airWait := false }))) ∧
    (c = resChannel → releaseVerdict c v = noticed (v.onLine fun l => { l with resCopy := false })))

/-! ## The service link -/

/-- A data frame with an identifier from 0x640 to 0x646 joins the receive queue as a request of its station, or counts
REQUESTS LOST behind 8; every other frame is ignored. The oldest frame begins to be sent, and a frame sent leaves the
queue (R170, R171, R173, R180, log 2). -/
def Obligations.LinkFramesPass : Prop :=
  (∀ (f : CanFrame) (a : StationId) (s : State), f.identifier.toNat = 0x640 + a.val →
    (s.link.receiveQueue.length < 8 →
      exec (.frameArrival f false) s =
        .next (s.onLink fun l => { l with receiveQueue := l.receiveQueue ++ [{ station := a, data := f.data }] })) ∧
    (8 ≤ s.link.receiveQueue.length →
      exec (.frameArrival f false) s = .next (s.onLink fun l => { l with requestsLost := l.requestsLost + 1 }))) ∧
  (∀ (f : CanFrame) (remote : Bool) (s : State),
    remote = true ∨ f.identifier.toNat < 0x640 ∨ 0x646 < f.identifier.toNat →
    exec (.frameArrival f remote) s = .next s) ∧
  (∀ s : State,
    (s.link.transmitQueue ≠ [] →
      exec .frameTransmissionBegin s = .next (s.onLink fun l => { l with transmitting := true })) ∧
    (s.link.transmitQueue = [] → exec .frameTransmissionBegin s = .next s)) ∧
  (∀ s : State,
    (s.link.transmitting = true →
      exec .frameTransmitted s =
        .next (s.onLink fun l => { l with transmitQueue := l.transmitQueue.drop 1, transmitting := false })) ∧
    (s.link.transmitting = false → exec .frameTransmitted s = .next s))

/-- The checks of the link, in their order: a data length of 0 or 1 is answered BAD LENGTH with the missing code or tag
echoed as 0, a code of no request UNKNOWN, a length other than the table's BAD LENGTH, and a "0 (link)" request from
another station NOT YOURS; a request waits until the places its answer needs are free, and a request command for
which none of its code is the oldest does nothing (R170 to R172, log 2). That UNASSIGNED_REQUEST_CODE takes the requests
of length 0 and 1, with 1 free place, is log 16, and that a POLL NOTICES of a wrong length waits for 3 is log 17. -/
def Obligations.LinkChecksComeFirst : Prop :=
  (∀ (station : StationId) (rest : List Request) (s : State),
    (s.asked station [] rest →
      exec .unassignedRequestCode s = .next (s.taken rest (answer station 0 0 .badLength noResults))) ∧
    (∀ code, s.asked station [code] rest →
      exec .unassignedRequestCode s = .next (s.taken rest (answer station code 0 .badLength noResults))) ∧
    (∀ code tag args, s.asked station (code :: tag :: args) rest →
      ((∀ c row, requestRow c = some row → row.code ≠ code) →
        exec .unassignedRequestCode s = .next (s.taken rest (answer station code tag .unknown noResults))) ∧
      (∀ c row, requestRow c = some row → row.code = code → exec .unassignedRequestCode s = .next s))) ∧
  (∀ (c : Instr) (row : RequestRow) (station : StationId) (tag : Byte) (args : List Byte) (rest : List Request)
    (s : State), requestRow c = some row →
    s.link.receiveQueue = { station := station, data := row.code :: tag :: args } :: rest →
    s.link.transmitQueue.length + row.places ≤ 16 →
    (args.length + 2 ≠ row.length → exec c s = .next (s.taken rest (answer station row.code tag .badLength noResults))) ∧
    (args.length + 2 = row.length → row.linkOnly = true → station ≠ 0 →
      exec c s = .next (s.taken rest (answer station row.code tag .notYours noResults)))) ∧
  (∀ (c : Instr) (row : RequestRow) (s : State), requestRow c = some row →
    (16 < s.link.transmitQueue.length + row.places → exec c s = .next s) ∧
    (s.link.receiveQueue = [] → exec c s = .next s) ∧
    (∀ q rest, s.link.receiveQueue = q :: rest → q.data.length < 2 ∨ q.data[0]? ≠ some row.code → exec c s = .next s))

/-- SET NOTICE MASK writes the sender's own mask and answers it; POLL NOTICES takes up to 2 pairs off the head of the
sender's set, reports and clears the flag, and places their frames directly behind its response; a poll of station 0
sets the overflow arm (R176, R178, R179). -/
def Obligations.MasksAndPolls : Prop :=
  (∀ (a : StationId) (tag mask : Byte) (rest : List Request) (s : State), s.asked a [0x3E, tag, mask] rest →
    exec .setNoticeMask s =
      .next ((s.taken rest (answer a 0x3E tag .done [mask, 0, 0, 0, 0])).onStation a fun st => { st with mask := mask })) ∧
  (∀ (a : StationId) (tag : Byte) (rest : List Request) (s : State),
    s.asked a [0x3F, tag] rest → s.link.transmitQueue.length ≤ 13 →
    let st := s.link.stations[a]
    let removed := st.notices.take 2
    exec .pollNotices s =
      .next { s with
        link :=
          { s.link with
            receiveQueue := rest
            transmitQueue := s.link.transmitQueue ++
              answer a 0x3F tag .done
                [BitVec.ofNat 8 removed.length, if st.lost = true then 1 else 0,
                  BitVec.ofNat 8 (st.notices.length - removed.length), 0, 0] ::
              removed.map (noticeFrame a)
            stations := s.link.stations.set a { st with notices := st.notices.drop 2, lost := false }
            overflowArm := if a = 0 then true else s.link.overflowArm } })

/-! ## Requests to the line -/

/-- START moves the line from STANDBY to RUN with the e-stop line released and E set, DRAIN from RUN to DRAIN with the
completion test at once, RESUME from HALT to its resume state with the e-stop line released and a debt of 0; each
raises its LINE notice, and each is WRONG STATE otherwise. At a RESUME the head is examined and a grant is examined
for, in either order (R159 to R161, R164; the order is the free value of log 3, and that the LINE notice of RESUME
stands ahead of what the examinations raise is log 10). -/
def Obligations.LineRequestsMoveTheLine : Prop :=
  ∀ (tag : Byte) (rest : List Request) (s : State),
    let moved (code : Byte) (new : LineState) (cause : LineCause) : State :=
      raiseNotice (.line (some s.line.state) new cause)
        ((s.taken rest (answer 0 code tag .done noResults)).onLine fun l => { l with state := new })
    let refused (code : Byte) : State := s.taken rest (answer 0 code tag .wrongState noResults)
    (s.asked 0 [0x01, tag] rest →
      (s.line.state = .standby ∧ s.line.estop = false ∧ s.geometry.beltEnd ≠ none →
        exec .start s = .next (driveOutputs (moved 0x01 .run .start))) ∧
      (¬ (s.line.state = .standby ∧ s.line.estop = false ∧ s.geometry.beltEnd ≠ none) →
        exec .start s = .next (refused 0x01))) ∧
    (s.asked 0 [0x02, tag] rest →
      (s.line.state = .run → exec .drain s = .next (settleLine (moved 0x02 .drain .drain))) ∧
      (s.line.state ≠ .run → exec .drain s = .next (refused 0x02))) ∧
    (s.asked 0 [0x04, tag] rest →
      (∀ r, s.line.state = .halt r →
        (s.line.estop = false → s.sensing.debt = 0 →
          let v := { moved 0x04 r.lineState .resume with draws := s.draws + 1 }
          ∃ t, exec .resume s = .next t ∧
            (t = settleLine (examine (examineHead v)) ∨ t = settleLine (examineHead (examine v)))) ∧
        (s.line.estop = true ∨ s.sensing.debt ≠ 0 → exec .resume s = .next (refused 0x04))) ∧
      ((∀ r, s.line.state ≠ .halt r) → exec .resume s = .next (refused 0x04)))

/-- STOP outside STANDBY moves the line to STANDBY with its LINE notice, discards every record and confirm-queue entry
as ABANDONED and every pending entry as PENDING ABANDONED, empties the request set and the message queue, and cuts
every pulse; in STANDBY it is WRONG STATE (R17, R34, R55, R57, R89, R90, R95, R165). -/
def Obligations.StopEmptiesTheBelt : Prop :=
  ∀ (tag : Byte) (rest : List Request) (s : State), s.asked 0 [0x03, tag] rest →
    (s.line.state = .standby → exec .stop s = .next (s.taken rest (answer 0 0x03 tag .wrongState noResults))) ∧
    (s.line.state ≠ .standby →
      ∃ t, exec .stop s = .next t ∧
        t.track = { s.track with records := [], abandoned := s.track.abandoned + BitVec.ofNat 32 (itemsHeld s) } ∧
        (∀ k : OutletId, t.outlets[k] = { s.outlets[k] with queue := [] }) ∧
        t.admission =
          { s.admission with
            entries := []
            captureQueue := []
            identReady := false
            pendingAbandoned := s.admission.pendingAbandoned + BitVec.ofNat 32 s.admission.entries.length } ∧
        t.air =
          { s.air with
            requests := Vector.replicate 12 none
            pulses := Vector.replicate 12 none
            pulsesCut := s.air.pulsesCut + BitVec.ofNat 32 (energisedCount s) } ∧
        t.line = { s.line with state := .standby, speedRef := 0, governor := .stopped } ∧
        t.link = (raiseNotice (.line (some s.line.state) .standby .stop)
          (s.taken rest (answer 0 0x03 tag .done noResults))).link ∧
        t.now = s.now ∧ t.sensing = s.sensing ∧ t.timing = s.timing ∧ t.geometry = s.geometry ∧
        t.routes = s.routes ∧ t.channels = s.channels ∧ t.balances = s.balances ∧ t.draws = s.draws ∧
        t.pending = s.pending)

/-- INITIALIZE, in every line state, leaves what the blocks' own rules leave: STANDBY, nothing carried or followed, no
pulse and no request, every outlet masked with its count at 0, every channel OFF, the debt, the speed measurement and
the leads at 0, the rotation mark at outlet 1, the link's queues and sets emptied with the requests behind it counted
REQUESTS LOST; counters, settings, placements, routes and balances are kept. Its response and its LINE notice stand
in the transmit queue (R6, R11, R17, R34, R55, R64, R90, R95, R142, R166, R180). -/
def Obligations.InitializeResetsTheBlocks : Prop :=
  ∀ (tag : Byte) (rest : List Request) (s : State), s.asked 0 [0x05, tag] rest →
    ∃ t, exec .initializeLine s = .next t ∧
      t.sensing =
        { s.sensing with
          debt := 0, intervalCount := 0, ring := Vector.replicate 8 0, speed := 0, intervalEnd := s.now + 32 } ∧
      t.admission =
        { s.admission with
          entries := []
          captureQueue := []
          framing := .hunting
          frameTimer := none
          identReady := false
          pendingAbandoned := s.admission.pendingAbandoned + BitVec.ofNat 32 s.admission.entries.length } ∧
      t.track = { s.track with records := [], abandoned := s.track.abandoned + BitVec.ofNat 32 (itemsHeld s) } ∧
      (∀ k : OutletId, t.timing[k] = { s.timing[k] with lead := 0 }) ∧
      t.air =
        { s.air with
          rotationMark := 0
          airWait := false
          requests := Vector.replicate 12 none
          pulses := Vector.replicate 12 none
          pulsesCut := s.air.pulsesCut + BitVec.ofNat 32 (energisedCount s) } ∧
      (∀ k : OutletId, t.outlets[k] = { s.outlets[k] with masked := true, consecutive := 0, queue := [] }) ∧
      (∀ c : ChannelId, t.channels[c] =
        { s.channels[c] with
          state := .off, ready := false, detected := false, firstRun := none, opposing := 0, settleEnd := none,
          nextSample := none,
          lastVerdict := if s.channels[c].detected = true then .clear else s.channels[c].lastVerdict }) ∧
      t.line =
        { s.line with state := .standby, speedRef := 0, governor := .stopped, airCopy := false, resCopy := false } ∧
      (let n : Notice := .line (some s.line.state) .standby .initialize_
       let sent := s.link.stations[(0 : StationId)].mask.getLsbD 0
       t.link.receiveQueue = [] ∧
       t.link.requestsLost = s.link.requestsLost + BitVec.ofNat 32 rest.length ∧
       t.link.transmitQueue =
         (if s.link.transmitting = true then s.link.transmitQueue.take 1 else []) ++
           answer 0 0x05 tag .done noResults :: (if sent = true then [noticeFrame 0 n] else []) ∧
       t.link.transmitting = s.link.transmitting ∧ t.link.stage = none ∧ t.link.overflowArm = true ∧
       t.link.framesSkipped = s.link.framesSkipped ∧
       ∀ a : StationId, t.link.stations[a].mask = s.link.stations[a].mask ∧ t.link.stations[a].lost = false ∧
         t.link.stations[a].notices = if a = 0 ∧ sent = true then [n] else []) ∧
      t.now = s.now ∧ t.geometry = s.geometry ∧ t.routes = s.routes ∧ t.balances = s.balances ∧
      t.draws = s.draws ∧ t.pending = s.pending

/-! ## Settings -/

/-- SET GEOMETRY writes Q, E and M together in STANDBY when each is in range and E lies at least 100 counts beyond
every offset present, and is WRONG STATE outside STANDBY; SET SPEED CODES writes Srun and Sslow; both drive the
outputs again. SET AIR writes A and the scheme, sets the mark to outlet 1 when the scheme changes, and examines for a
grant when A rises to 2; SET PLACE TIMING writes the stage unchecked. A value out of range is BAD VALUE and changes
nothing (R73, R77, R80 to R82, R169, R174). -/
def Obligations.SettingsAreWritten : Prop :=
  (∀ (tag q1 q2 e1 e2 m : Byte) (rest : List Request) (s : State), s.asked 0 [0x06, tag, q1, q2, e1, e2, m] rest →
     let q := q1.toNat * 256 + q2.toNat
     let e := e1.toNat * 256 + e2.toNat
     let inRange := 50 ≤ q ∧ q ≤ 400 ∧ 700 ≤ e ∧ e ≤ 3200 ∧ 24 ≤ m.toNat ∧ m.toNat ≤ 47 ∧
       ∀ (k : OutletId) (d : Nat), s.timing[k].offset = some d → d + 100 ≤ e
     (s.line.state ≠ .standby →
       exec .setGeometry s = .next (s.taken rest (answer 0 0x06 tag .wrongState noResults))) ∧
     (s.line.state = .standby → ¬ inRange →
       exec .setGeometry s = .next (s.taken rest (answer 0 0x06 tag .badValue noResults))) ∧
     (s.line.state = .standby → inRange →
       exec .setGeometry s =
         .next (driveOutputs
           { s.taken rest (answer 0 0x06 tag .done noResults) with
             geometry := { identityOffset := q, beltEnd := some e }
             line := { s.line with slowMark := m.toNat } }))) ∧
  (∀ (tag run slow : Byte) (rest : List Request) (s : State), s.asked 0 [0x07, tag, run, slow] rest →
    (1 ≤ run.toNat ∧ 1 ≤ slow.toNat ∧ slow.toNat ≤ run.toNat →
      exec .setSpeedCodes s =
        .next (driveOutputs ((s.taken rest (answer 0 0x07 tag .done noResults)).onLine fun l =>
          { l with runCode := run.toNat, slowCode := slow.toNat }))) ∧
    (¬ (1 ≤ run.toNat ∧ 1 ≤ slow.toNat ∧ slow.toNat ≤ run.toNat) →
      exec .setSpeedCodes s = .next (s.taken rest (answer 0 0x07 tag .badValue noResults)))) ∧
  (∀ (tag a b : Byte) (rest : List Request) (s : State), s.asked 0 [0x08, tag, a, b] rest →
    ((a = 1 ∨ a = 2) → (b = 0 ∨ b = 1) →
      let scheme : GrantScheme := if b = 0 then .fixed else .rotating
      let v := (s.taken rest (answer 0 0x08 tag .done noResults)).onAir fun x =>
        { x with
          slots := a.toNat
          scheme := scheme
          rotationMark := if x.scheme = scheme then x.rotationMark else 0 }
      exec .setAir s = .next (if s.air.slots < a.toNat then settleLine (examine v) else v)) ∧
    (¬ ((a = 1 ∨ a = 2) ∧ (b = 0 ∨ b = 1)) →
      exec .setAir s = .next (s.taken rest (answer 0 0x08 tag .badValue noResults)))) ∧
  (∀ (tag n l x lo hi1 hi2 : Byte) (rest : List Request) (s : State),
    s.asked 0 [0x09, tag, n, l, x, lo, hi1, hi2] rest →
    (∀ k : OutletId, n = numberByte k →
      exec .setPlaceTiming s =
        .next ((s.taken rest (answer 0 0x09 tag .done noResults)).onLink fun link =>
          { link with
            stage := some
              { outlet := k, latency := l.toNat, extension := x.toNat, minPulse := lo.toNat,
                maxPulse := hi1.toNat * 256 + hi2.toNat } })) ∧
    ((∀ k : OutletId, n ≠ numberByte k) →
      exec .setPlaceTiming s = .next (s.taken rest (answer 0 0x09 tag .badValue noResults))))

/-- SET OUTLET PLACE is checked for its outlet, its sender, the state (masked, no record targeting the outlet, an empty
queue, the fill probe OFF for HANDOFF) and the values (mode and owner codes, window, the stage and its ranges, the
offset in its range and order and 100 counts short of E). Taken, it writes the parameters, the lead, the mode, the
owner and the window, empties the stage, resets the foreign routes of a new owner, and sets the state; a JAMMED outlet
and a configured one that keeps its mode keep their state (R60, R61, R63, R71, R72, R112 to R114, R123, R174). -/
def Obligations.PlacementConfiguresTheOutlet : Prop :=
  ∀ (station : StationId) (tag n m w1 w2 d1 d2 : Byte) (rest : List Request) (s : State),
    s.asked station [0x0A, tag, n, m, w1, w2, d1, d2] rest →
    let refused (status : Status) := exec .setOutletPlace s = .next (s.taken rest (answer station 0x0A tag status noResults))
    ((∀ k : OutletId, n ≠ numberByte k) → refused .badValue) ∧
    ∀ k : OutletId, n = numberByte k →
      let window := w1.toNat * 256 + w2.toNat
      let d := d1.toNat * 256 + d2.toNat
      let modeCode := m.toNat / 16
      let o := s.outlets[k]
      let stateAllows := o.masked = true ∧ (∀ r ∈ s.track.records, r.target ≠ some k) ∧ o.queue = [] ∧
        (modeCode = 1 → s.channels[fillProbe k].state = .off)
      let valuesAllow (p : PlacementStage) := modeCode ≤ 1 ∧ m.toNat % 16 ≤ 6 ∧ 50 ≤ window ∧ window ≤ 1000 ∧
        p.outlet = k ∧ p.latency ≤ 250 ∧ p.extension ≤ 50 ∧ 10 ≤ p.minPulse ∧ p.minPulse ≤ 100 ∧
        20 ≤ p.maxPulse ∧ p.maxPulse ≤ 500 ∧ p.minPulse ≤ p.maxPulse ∧ 660 ≤ d ∧ d ≤ 3000 ∧
        (∀ (j : OutletId) (e : Nat), j < k → s.timing[j].offset = some e → e < d) ∧
        (∀ (j : OutletId) (e : Nat), k < j → s.timing[j].offset = some e → d < e) ∧
        (∀ e, s.geometry.beltEnd = some e → d + 100 ≤ e)
      (station ≠ 0 → refused .notYours) ∧
      (station = 0 → ¬ stateAllows → refused .wrongState) ∧
      (station = 0 → stateAllows → (∀ p, s.link.stage = some p → ¬ valuesAllow p) → refused .badValue) ∧
      (station = 0 → stateAllows → ∀ p, s.link.stage = some p → valuesAllow p →
        ∀ (mode : OutletMode) (owner : StationId), m.toNat = mode.code * 16 + owner.val →
        let v := ((((s.taken rest (answer 0 0x0A tag .done noResults)).onTiming k fun t =>
            { t with
              offset := some d, latency := p.latency, extension := p.extension, minPulse := p.minPulse,
              maxPulse := p.maxPulse, lead := (p.latency * s.sensing.speed + 500) / 1000 }).onOutlet k fun o =>
            { o with mode := mode, owner := owner, confirmWindow := window })).onLink fun l => { l with stage := none }
        let w := if owner = o.owner then v else resetForeignRoutes k owner v
        (o.state = .jammed ∨ (o.state ≠ .unconfigured ∧ mode = o.mode) → exec .setOutletPlace s = .next w) ∧
        (o.state = .unconfigured → exec .setOutletPlace s = .next (enterByMode k w)) ∧
        (o.state ≠ .jammed → o.state ≠ .unconfigured → mode ≠ o.mode →
          exec .setOutletPlace s = .next (enterByMode k (w.onOutlet k fun o => { o with consecutive := 0 }))))

/-! ## Requests to an outlet, a route and a channel -/

/-- A request to an outlet names one from 1 to 12, else BAD VALUE, and comes from station 0 or its owner, else NOT
YOURS. MASK sets the mask flag, with the loss of an accepting outlet, and UNMASK clears it; SET CRATE writes the base
count and autoreload and brings a current count above the new base count down to it; RELOAD CRATE refreshes a FULL or
HELD crate and opens it, or jams it when a jam is owed; CLEAR JAM sets the count to 0 and lets a JAMMED outlet enter by
its mode; each of the last two is WRONG STATE otherwise (R102, R107 to R109, R111, R112). -/
def Obligations.OutletRequestsAct : Prop :=
  (∀ (c : Instr) (row : RequestRow) (station : StationId) (tag n : Byte) (args : List Byte) (rest : List Request)
    (s : State), c ∈ [Instr.mask, .unmask, .setCrate, .reloadCrate, .clearJam] → requestRow c = some row →
    s.asked station (row.code :: tag :: n :: args) rest → args.length + 3 = row.length →
    ((∀ k : OutletId, n ≠ numberByte k) →
      exec c s = .next (s.taken rest (answer station row.code tag .badValue noResults))) ∧
    (∀ k : OutletId, n = numberByte k → station ≠ 0 → station ≠ s.outlets[k].owner →
      exec c s = .next (s.taken rest (answer station row.code tag .notYours noResults)))) ∧
  (∀ (k : OutletId) (station : StationId) (tag : Byte) (rest : List Request) (s : State),
    station = 0 ∨ station = s.outlets[k].owner →
    let done (code : Byte) : State := s.taken rest (answer station code tag .done noResults)
    let wrong (code : Byte) : State := s.taken rest (answer station code tag .wrongState noResults)
    let o := s.outlets[k]
    (s.asked station [0x10, tag, numberByte k] rest →
      let v := (done 0x10).onOutlet k fun o => { o with masked := true }
      exec .mask s = .next (driveOutputs (if accepting k s = true then lossOfAcceptance present k v else v))) ∧
    (s.asked station [0x11, tag, numberByte k] rest →
      exec .unmask s = .next ((done 0x11).onOutlet k fun o => { o with masked := false })) ∧
    (∀ base code : Byte, s.asked station [0x12, tag, numberByte k, base, code] rest →
      (1 ≤ base.toNat → base.toNat ≤ 250 → code = 0 ∨ code = 1 →
        exec .setCrate s =
          .next ((done 0x12).onOutlet k fun o =>
            { o with
              baseCount := base.toNat
              autoreload := decide (code = 1)
              currentCount := if base.toNat < o.currentCount then base.toNat else o.currentCount })) ∧
      (¬ (1 ≤ base.toNat ∧ base.toNat ≤ 250 ∧ (code = 0 ∨ code = 1)) →
        exec .setCrate s = .next (s.taken rest (answer station 0x12 tag .badValue noResults)))) ∧
    (s.asked station [0x13, tag, numberByte k] rest →
      (¬ (o.mode = .crate ∧ (o.state = .full ∨ o.state = .held)) → exec .reloadCrate s = .next (wrong 0x13)) ∧
      (o.mode = .crate → o.state = .full ∨ o.state = .held →
        (o.consecutive ≠ 3 →
          exec .reloadCrate s =
            .next ((done 0x13).onOutlet k fun o => { o with currentCount := o.baseCount, state := .opened })) ∧
        (o.consecutive = 3 →
          exec .reloadCrate s =
            .next (raiseNotice (.jam k o.unconfirmed)
              ((done 0x13).onOutlet k fun o => { o with currentCount := o.baseCount, state := .jammed }))))) ∧
    (s.asked station [0x14, tag, numberByte k] rest →
      (o.state ≠ .jammed → exec .clearJam s = .next (wrong 0x14)) ∧
      (o.state = .jammed →
        exec .clearJam s = .next (enterByMode k ((done 0x14).onOutlet k fun o => { o with consecutive := 0 })))))

/-- SET ROUTE is checked for its row and class, its sender, its outlets and confidence, the owners of the outlets it
names, and the shape the belt allows, and taken writes the entry and raises the row's revision, which it answers
(R119 to R122). -/
def Obligations.SetRouteWritesTheEntry : Prop :=
  ∀ (station : StationId) (tag r c p a m : Byte) (rest : List Request) (s : State),
    s.asked station [0x18, tag, r, c, p, a, m] rest →
    let refused (status : Status) := exec .setRoute s = .next (s.taken rest (answer station 0x18 tag status noResults))
    (6 < r.toNat ∨ 10 < c.toNat → refused .badValue) ∧
    ∀ (row : StationId) (cls : Fin 11), r.toNat = row.val → c.toNat = cls.val →
      (station ≠ 0 → station ≠ row → refused .notYours) ∧
      (station = 0 ∨ station = row →
        (12 < p.toNat ∨ 12 < a.toNat ∨ 15 < m.toNat → refused .badValue) ∧
        ∀ (primary alternate : Option OutletId) (conf : Confidence),
          p.toNat = outletNumber primary → a.toNat = outletNumber alternate → m.toNat = conf.val →
          let names (k : OutletId) := primary = some k ∨ alternate = some k
          let foreignOutlet := ∃ k, names k ∧ s.outlets[k].owner ≠ 0 ∧ s.outlets[k].owner ≠ row
          let shaped := (primary = none → alternate = none) ∧ (∀ k, names k → s.timing[k].offset ≠ none) ∧
            (∀ i j di dj, primary = some i → alternate = some j → s.timing[i].offset = some di →
              s.timing[j].offset = some dj → j ≠ i ∧ di < dj)
          (foreignOutlet → refused .notYours) ∧
          (¬ foreignOutlet → ¬ shaped → refused .badRoute) ∧
          (¬ foreignOutlet → shaped →
            let revision := s.routes[row].revision + 1
            exec .setRoute s =
              .next ((s.taken rest (answer station 0x18 tag .done
                  [BitVec.ofNat 8 (revision.toNat / 256), BitVec.ofNat 8 revision.toNat, 0, 0, 0])).onRoutes fun rows =>
                rows.set row
                  { entries := s.routes[row].entries.set cls
                      { primary := primary, alternate := alternate, minConfidence := conf }
                    revision := revision })))

/-- A request to a channel names one from 1 to 14, else BAD VALUE, and comes from station 0 or the channel's owner,
else NOT YOURS. SET CHANNEL writes the settings of an OFF channel whose codes keep the release code on its side of the
trip code; ENABLE CHANNEL starts the settle time of an OFF channel, but of no HANDOFF outlet's probe; CHANNEL OFF
returns a channel to OFF, and a detected one releases with its own notice (R130 to R133, R139, R141). -/
def Obligations.ChannelRequestsAct : Prop :=
  (∀ (cmd : Instr) (row : RequestRow) (station : StationId) (tag n : Byte) (args : List Byte) (rest : List Request)
    (s : State), cmd ∈ [Instr.setChannel, .enableChannel, .channelOff] → requestRow cmd = some row →
    s.asked station (row.code :: tag :: n :: args) rest → args.length + 3 = row.length →
    ((∀ c : ChannelId, n ≠ numberByte c) →
      exec cmd s = .next (s.taken rest (answer station row.code tag .badValue noResults))) ∧
    (∀ c : ChannelId, n = numberByte c → station ≠ 0 → station ≠ channelOwner c s →
      exec cmd s = .next (s.taken rest (answer station row.code tag .notYours noResults)))) ∧
  (∀ (c : ChannelId) (station : StationId) (tag : Byte) (rest : List Request) (s : State),
    station = 0 ∨ station = channelOwner c s →
    let done (code : Byte) : State := s.taken rest (answer station code tag .done noResults)
    let refused (code : Byte) (status : Status) : State := s.taken rest (answer station code tag status noResults)
    let ch := s.channels[c]
    (∀ m trip release period edges : Byte,
      s.asked station [0x20, tag, numberByte c, m, trip, release, period, edges] rest →
      let codesKeepSides := if c = airChannel then trip.toNat ≤ release.toNat else release.toNat ≤ trip.toNat
      let periodNamed := period = 4 ∨ period = 8 ∨ period = 16 ∨ period = 32
      (ch.state ≠ .off → exec .setChannel s = .next (refused 0x20 .wrongState)) ∧
      (ch.state = .off → ¬ (m.toNat ≤ 2 ∧ edges.toNat ≤ 3 ∧ periodNamed ∧ codesKeepSides) →
        exec .setChannel s = .next (refused 0x20 .badValue)) ∧
      (∀ (mode : ChannelMode) (edge : NoticeEdges), ch.state = .off → m.toNat = mode.code → edges.toNat = edge.code →
        periodNamed → codesKeepSides →
        exec .setChannel s =
          .next ((done 0x20).onChannel c fun ch =>
            { ch with
              mode := mode, trip := trip.toNat, release := release.toNat, period := period.toNat, edges := edge }))) ∧
    (s.asked station [0x21, tag, numberByte c] rest →
      let handoff := ∃ k : OutletId, k.val = c.val ∧ s.outlets[k].mode = .handoff
      (ch.state ≠ .off ∨ handoff → exec .enableChannel s = .next (refused 0x21 .wrongState)) ∧
      (ch.state = .off → ¬ handoff →
        exec .enableChannel s =
          .next ((done 0x21).onChannel c fun ch => { ch with state := .settling, settleEnd := some (s.now + 64) }))) ∧
    (s.asked station [0x22, tag, numberByte c] rest →
      let off := (done 0x22).onChannel c fun ch =>
        { ch with state := .off, ready := false, detected := false, firstRun := none, opposing := 0,
                  settleEnd := none, nextSample := none }
      (¬ (ch.state = .watching ∧ ch.detected = true) → exec .channelOff s = .next off) ∧
      (ch.state = .watching → ch.detected = true →
        let v := off.onChannel c fun ch => { ch with lastVerdict := .clear }
        let released :=
          if c = airChannel then
            examine ((v.onLine fun l => { l with airCopy := false }).onAir fun a => { a with airWait := false })
          else if c = resChannel then v.onLine fun l => { l with resCopy := false }
          else v
        exec .channelOff s =
          .next (driveOutputs (raiseNotice (.channel c .stoppedWhileDetected ch.trip ch.release) released)))))

/-! ## Requests to a balance -/

/-- A request to an accumulator names a concession and a family from 1 to 6, else BAD VALUE, and comes from station 0 or
the concession (SET VALUE from station 0 alone), else NOT YOURS. ISSUE and ADJUST add their amount, SET VALUE writes
the value and sets the excursion to 0, SET THRESHOLD writes the threshold: each answers the accumulator as it then is,
evaluates the above flag, and raises BALANCE HIGH when the flag goes from clear to set. An amount or threshold out of
range is BAD VALUE (R146, R149 to R153). -/
def Obligations.BalanceMastersChangeTheValue : Prop :=
  (∀ (cmd : Instr) (row : RequestRow) (station : StationId) (tag a b : Byte) (args : List Byte) (rest : List Request)
    (s : State), cmd ∈ [Instr.issue, .adjust, .setValue, .setThreshold, .clearFlags] → requestRow cmd = some row →
    s.asked station (row.code :: tag :: a :: b :: args) rest → args.length + 4 = row.length →
    ((∀ c : Fin 6, a ≠ numberByte c) ∨ (∀ f : Fin 6, b ≠ numberByte f) →
      exec cmd s = .next (s.taken rest (answer station row.code tag .badValue noResults))) ∧
    (∀ c f : Fin 6, a = numberByte c → b = numberByte f → station ≠ 0 → cmd = .setValue ∨ station ≠ c.succ →
      exec cmd s = .next (s.taken rest (answer station row.code tag .notYours noResults)))) ∧
  (∀ (c f : Fin 6) (station : StationId) (tag x y : Byte) (rest : List Request) (s : State),
    let amount : Nat := x.toNat * 256 + y.toNat
    let signed : Int := if amount < 32768 then amount else (amount : Int) - 65536
    let old := s.balances[c].accounts[f]
    let mode := s.balances[c].mode
    let refused (code : Byte) : State := s.taken rest (answer station code tag .badValue noResults)
    -- the accumulator `a` under the threshold `h`, answered, written and reported
    let changed (code : Byte) (a : Accumulator) (h : Nat) : State :=
      let new : Accumulator := { a with aboveFlag := decide ((h : Int) < a.value) }
      let v := (s.taken rest (answer station code tag .done
          [BitVec.ofNat 8 ((BitVec.ofInt 16 new.value).toNat / 256), BitVec.ofInt 8 new.value,
            BitVec.ofInt 8 new.excursion,
            BitVec.ofNat 8 ((if new.overFlag = true then 1 else 0) + (if new.aboveFlag = true then 2 else 0)),
            0])).onBalance c fun b => { b with accounts := b.accounts.set f new, thresholds := b.thresholds.set f h }
      if old.aboveFlag = false ∧ new.aboveFlag = true then
        raiseNotice (.balanceHigh c f new.value new.excursion h) v
      else v
    let threshold := s.balances[c].thresholds[f]
    (station = 0 ∨ station = c.succ →
      (s.asked station [0x28, tag, numberByte c, numberByte f, x, y] rest →
        (1 ≤ amount → amount ≤ 4095 → exec .issue s = .next (changed 0x28 (addAmount mode amount old) threshold)) ∧
        (amount = 0 ∨ 4095 < amount → exec .issue s = .next (refused 0x28))) ∧
      (s.asked station [0x29, tag, numberByte c, numberByte f, x, y] rest →
        (-4095 ≤ signed → signed ≤ 4095 →
          exec .adjust s = .next (changed 0x29 (addAmount mode signed old) threshold)) ∧
        (signed < -4095 ∨ 4095 < signed → exec .adjust s = .next (refused 0x29))) ∧
      (s.asked station [0x2C, tag, numberByte c, numberByte f, x, y] rest →
        (amount ≤ 32767 → exec .setThreshold s = .next (changed 0x2C old amount)) ∧
        (32767 < amount → exec .setThreshold s = .next (refused 0x2C)))) ∧
    (station = 0 → s.asked station [0x2A, tag, numberByte c, numberByte f, x, y] rest →
      exec .setValue s = .next (changed 0x2A { old with value := signed, excursion := 0 } threshold)))

/-- CLEAR FLAGS clears the over flag and leaves the value, the excursion and the above flag; SET BALANCE MODE writes the
concession's mode and changes no value, excursion or flag, and is checked for its concession, its sender and its code
in that order (R149, R154, R155). -/
def Obligations.FlagsAndModesAreSet : Prop :=
  (∀ (c f : Fin 6) (station : StationId) (tag : Byte) (rest : List Request) (s : State),
    station = 0 ∨ station = c.succ → s.asked station [0x2D, tag, numberByte c, numberByte f] rest →
    let old := s.balances[c].accounts[f]
    exec .clearFlags s =
      .next ((s.taken rest (answer station 0x2D tag .done
          [BitVec.ofNat 8 ((BitVec.ofInt 16 old.value).toNat / 256), BitVec.ofInt 8 old.value,
            BitVec.ofInt 8 old.excursion, if old.aboveFlag = true then 2 else 0, 0])).onBalance c fun b =>
        { b with accounts := b.accounts.set f { old with overFlag := false } })) ∧
  (∀ (station : StationId) (tag n m : Byte) (rest : List Request) (s : State),
    s.asked station [0x2B, tag, n, m] rest →
    ((∀ c : Fin 6, n ≠ numberByte c) →
      exec .setBalanceMode s = .next (s.taken rest (answer station 0x2B tag .badValue noResults))) ∧
    (∀ c : Fin 6, n = numberByte c →
      (station ≠ 0 → station ≠ c.succ →
        exec .setBalanceMode s = .next (s.taken rest (answer station 0x2B tag .notYours noResults))) ∧
      (station = 0 ∨ station = c.succ →
        (m ≠ 0 → m ≠ 1 →
          exec .setBalanceMode s = .next (s.taken rest (answer station 0x2B tag .badValue noResults))) ∧
        (∀ mode : BalanceMode, m.toNat = mode.code →
          exec .setBalanceMode s =
            .next ((s.taken rest (answer station 0x2B tag .done [m, 0, 0, 0, 0])).onBalance c fun b =>
              { b with mode := mode })))))

/-! ## Reads -/

/-- READ LINE, READ OUTLET, READ CHANNEL and READ COUNTS answer the item asked for as a 32-bit number with presence 1,
or zeros with presence 0 where the quantity is absent, and BAD VALUE for an item or subject outside the lists; they
change nothing but that the request is taken and answered (R92, R115, R129, R143, R167, R175; that the run count is
absent in OFF and SETTLING is log 12, and that an input reads as before an edge of it that waits is log 22). -/
def Obligations.ReadsAnswerQuantities : Prop :=
  let flag (b : Bool) : Option Nat := some (if b = true then 1 else 0)
  let form (v : Option Nat) : List Byte :=
    match v with
    | some n => [BitVec.ofNat 8 (n / 16777216), BitVec.ofNat 8 (n / 65536), BitVec.ofNat 8 (n / 256), BitVec.ofNat 8 n, 1]
    | none => [0, 0, 0, 0, 0]
  -- what a read of the item `i` of a list of items answers
  let answers (s : State) (rest : List Request) (a : StationId) (code tag i : Byte) (items : List (Option Nat)) : State :=
    s.taken rest (match items[i.toNat]? with
      | some v => answer a code tag .done (form v)
      | none => answer a code tag .badValue noResults)
  ∀ (a : StationId) (tag n i : Byte) (rest : List Request) (s : State),
    (s.asked a [0x30, tag, i] rest →
      exec .readLine s = .next (answers s rest a 0x30 tag i
        [some s.line.state.code, (match s.line.state with | .halt .run => some 1 | .halt .drain => some 2 | _ => none),
          flag s.line.estop, some s.line.speedRef, some s.line.governor.code, some s.line.runCode,
          some s.line.slowCode, some s.line.slowMark, flag s.line.airCopy, flag s.line.resCopy,
          some s.sensing.position.toNat, some s.sensing.debt, some s.sensing.speed, flag (filteredState .ge s),
          some s.admission.entries.length, flag s.admission.identReady, some s.track.records.length,
          some s.geometry.identityOffset, s.geometry.beltEnd, some s.air.slots, some s.air.scheme.code,
          some (s.air.rotationMark.val + 1), flag s.air.airWait, some (energisedCount s), some (requestCount s)])) ∧
    (s.asked a [0x38, tag, i] rest →
      exec .readCounts s = .next (answers s rest a 0x38 tag i
        ([s.track.admitted, s.track.sorted, s.track.unconfirmed, s.track.residue, s.track.missed, s.track.abandoned,
          s.admission.untracked, s.admission.overflow, s.admission.noIdentity, s.admission.merged,
          s.admission.duplicate, s.admission.stale, s.admission.badFrame, s.admission.badCheck,
          s.admission.pendingAbandoned, s.sensing.encoderSkip, s.air.grants, s.air.pulsesCut, s.link.requestsLost,
          s.link.framesSkipped].map fun d => some d.toNat))) ∧
    (s.asked a [0x31, tag, n, i] rest →
      ((∀ k : OutletId, n ≠ numberByte k) →
        exec .readOutlet s = .next (s.taken rest (answer a 0x31 tag .badValue noResults))) ∧
      (∀ k : OutletId, n = numberByte k →
        let o := s.outlets[k]
        let t := s.timing[k]
        exec .readOutlet s = .next (answers s rest a 0x31 tag i
          [some o.mode.code, some o.owner.val, some o.state.code, flag o.masked, flag (accepting k s),
            some o.confirmWindow, some o.baseCount, some o.currentCount, flag o.autoreload,
            flag (decide (o.consecutive = 3 ∧ (o.state = .full ∨ o.state = .swap ∨ o.state = .held))),
            some o.queue.length, some o.consecutive, some o.cratesCompleted.toNat, some o.sorted.toNat,
            some o.unconfirmed.toNat, some o.overfill.toNat, some o.spill.toNat, some o.stray.toNat,
            flag (filteredState (.chuteGate k) s), flag (filteredState (.crateSensor k) s),
            flag (filteredState (.readyLine k) s), t.offset, some t.latency, some t.extension, some t.minPulse,
            some t.maxPulse, some t.lead, some t.lastPulse.duration, some t.lastPulse.speed,
            some t.lastPulse.clamp.code, flag (energised k s), s.air.pulses[k].map (fun p => p.tag.toNat),
            s.air.pulses[k].map (fun p => p.pulseEnd - s.now), s.air.requests[k].map (fun q => q.toNat)]))) ∧
    (s.asked a [0x36, tag, n, i] rest →
      ((∀ c : ChannelId, n ≠ numberByte c) →
        exec .readChannel s = .next (s.taken rest (answer a 0x36 tag .badValue noResults))) ∧
      (∀ c : ChannelId, n = numberByte c →
        let ch := s.channels[c]
        exec .readChannel s = .next (answers s rest a 0x36 tag i
          [some ch.state.code, some ch.mode.code, some ch.trip, some ch.release, some ch.period, some ch.edges.code,
            some (match ch.state, ch.detected with
              | .off, _ => 0
              | .watching, true => ch.release
              | .watching, false => ch.trip
              | .settling, _ | .samplingFirst, _ => ch.trip),
            flag ch.ready, flag ch.detected, some ch.lastVerdict.code, some ch.detectionCount.toNat,
            (match ch.state, ch.firstRun with
              | .samplingFirst, some (_, count) => some count
              | .samplingFirst, none => some 0
              | .watching, _ => some ch.opposing
              | .off, _ | .settling, _ => none),
            ch.firstRun.map (fun r => if r.1 = true then 1 else 0), some (channelOwner c s).val])))

/-- READ CONFIRM QUEUE, READ TRACK ENTRY and READ PENDING answer the entry at a position by its tag or capture number and
one item of it, the empty marker for a position that holds none, and the items of the whole collection in either case;
READ ROUTE answers an entry and its row's revision, READ BALANCE an accumulator, or its threshold and mode. A subject,
position or item out of range is BAD VALUE, and nothing is changed (R36, R58, R116, R127, R157, R175). The item bytes
beside the marker of an empty position and of an absent item are log 14. -/
def Obligations.ReadsAnswerEntries : Prop :=
  let two (n : Nat) : List Byte := [BitVec.ofNat 8 (n / 256), BitVec.ofNat 8 n]
  let three (n : Nat) : List Byte := BitVec.ofNat 8 (n / 65536) :: two n
  -- the entry form, and the pending form
  let entry (tag : Option SequenceTag) (item : Option Nat) : List Byte :=
    (match tag with | some t => two t.toNat | none => [0xFF, 0xFF]) ++
      (match item with | some v => three v | none => [0xFF, 0xFF, 0xFF])
  let pend (capture : Option CaptureNumber) (item : Option Nat) : List Byte :=
    (match capture with | some v => BitVec.ofNat 8 v.toNat | none => 0xFF) ::
      (match item with | some v => three v ++ [1] | none => [0, 0, 0, 0])
  let outletCode (k : Option OutletId) : Nat := match k with | some k => k.val + 1 | none => 0
  ∀ (a : StationId) (tag n p i : Byte) (rest : List Request) (s : State),
    let reply (code : Byte) (results : List Byte) := State.taken rest (answer a code tag .done results) s
    let bad (code : Byte) := State.taken rest (answer a code tag .badValue noResults) s
    (s.asked a [0x32, tag, n, p, i] rest →
      ((∀ k : OutletId, n ≠ numberByte k) ∨ 3 < p.toNat ∨ 4 < i.toNat → exec .readConfirmQueue s = .next (bad 0x32)) ∧
      (∀ k : OutletId, n = numberByte k → p.toNat ≤ 3 →
        let q := s.outlets[k].queue
        let t := q[p.toNat]?.map (·.tag)
        (i = 4 → exec .readConfirmQueue s = .next (reply 0x32 (entry t (some q.length)))) ∧
        (i.toNat < 4 → q.length ≤ p.toNat → exec .readConfirmQueue s = .next (reply 0x32 (entry none none))) ∧
        (∀ e, q[p.toNat]? = some e →
          (i = 0 → exec .readConfirmQueue s = .next (reply 0x32 (entry t (some e.owner.val)))) ∧
          (i = 1 → exec .readConfirmQueue s = .next (reply 0x32 (entry t (some e.wareClass.code.val)))) ∧
          (e.phase = .pulsing →
            (i = 2 → exec .readConfirmQueue s = .next (reply 0x32 (entry t (some 0)))) ∧
            (i = 3 → exec .readConfirmQueue s = .next (reply 0x32 (entry t none)))) ∧
          (∀ d, e.phase = .awaiting d →
            (i = 2 → exec .readConfirmQueue s = .next (reply 0x32 (entry t (some 1)))) ∧
            (i = 3 → exec .readConfirmQueue s = .next (reply 0x32 (entry t (some (d - s.now))))))))) ∧
    (s.asked a [0x33, tag, p, i] rest →
      (47 < p.toNat ∨ 10 < i.toNat → exec .readTrackEntry s = .next (bad 0x33)) ∧
      (p.toNat ≤ 47 → i = 10 →
        exec .readTrackEntry s =
          .next (reply 0x33 (entry (s.track.records[p.toNat]?.map (·.tag)) (some s.track.records.length)))) ∧
      (p.toNat ≤ 47 → i.toNat < 10 → s.track.records.length ≤ p.toNat →
        exec .readTrackEntry s = .next (reply 0x33 (entry none none))) ∧
      (p.toNat ≤ 47 → ∀ r, s.track.records[p.toNat]? = some r → ∀ v,
        [r.footprint, r.centre.toNat, r.wareClass.code.val, r.owner.val, r.confidence.val, outletCode r.primary,
          outletCode r.alternate, outletCode r.target, r.state.code, if r.fallback = true then 1 else 0][i.toNat]? =
            some v →
        exec .readTrackEntry s = .next (reply 0x33 (entry (some r.tag) (some v))))) ∧
    (s.asked a [0x34, tag, p, i] rest →
      (3 < p.toNat ∨ 6 < i.toNat → exec .readPending s = .next (bad 0x34)) ∧
      (p.toNat ≤ 3 →
        let c := s.admission.entries[p.toNat]?.map (·.capture)
        (i = 5 → exec .readPending s = .next (reply 0x34 (pend c (some s.admission.entries.length)))) ∧
        (i = 6 → exec .readPending s = .next (reply 0x34 (pend c (some s.admission.captureCounter.toNat)))) ∧
        (i.toNat < 5 → s.admission.entries.length ≤ p.toNat →
          exec .readPending s = .next (reply 0x34 (pend none none))) ∧
        (∀ e, s.admission.entries[p.toNat]? = some e → ∀ v,
          [some e.leading.toNat, e.trailing.map (fun x => x.toNat), e.record.map (fun x => x.wareClass.code.val),
            e.record.map (fun x => x.owner.val), e.record.map (fun x => x.confidence.val)][i.toNat]? = some v →
          exec .readPending s = .next (reply 0x34 (pend c v))))) ∧
    (s.asked a [0x35, tag, n, i] rest →
      (6 < n.toNat ∨ 10 < i.toNat → exec .readRoute s = .next (bad 0x35)) ∧
      (∀ (row : StationId) (cls : Fin 11), n.toNat = row.val → i.toNat = cls.val →
        let e := s.routes[row].entries[cls]
        exec .readRoute s =
          .next (reply 0x35
            (BitVec.ofNat 8 (outletCode e.primary) :: BitVec.ofNat 8 (outletCode e.alternate) ::
              BitVec.ofNat 8 e.minConfidence.val :: two s.routes[row].revision.toNat)))) ∧
    (s.asked a [0x37, tag, n, p, i] rest →
      ((∀ c : Fin 6, n ≠ numberByte c) ∨ (∀ f : Fin 6, p ≠ numberByte f) ∨ 1 < i.toNat →
        exec .readBalance s = .next (bad 0x37)) ∧
      (∀ c f : Fin 6, n = numberByte c → p = numberByte f →
        let x := s.balances[c].accounts[f]
        (i = 0 → exec .readBalance s =
          .next (reply 0x37 (two (BitVec.ofInt 16 x.value).toNat ++ [BitVec.ofInt 8 x.excursion,
            BitVec.ofNat 8 ((if x.overFlag = true then 1 else 0) + (if x.aboveFlag = true then 2 else 0)), 0]))) ∧
        (i = 1 → exec .readBalance s =
          .next (reply 0x37 (two s.balances[c].thresholds[f] ++ [BitVec.ofNat 8 s.balances[c].mode.code, 0, 0])))))
end

