-- ==== Sys2Proof/Laws/State.lean ====
section
/-! SUPPORT. What each update of one block does to each field of the state: one lemma per field per update. -/

namespace Sys2Proof.Machine

open Sys2Proof

variable (s : State)

@[simp] theorem State.onNow_now (f : Nat → Nat) : (s.onNow f).now = f s.now := rfl
@[simp] theorem State.onNow_sensing (f : Nat → Nat) : (s.onNow f).sensing = s.sensing := rfl
@[simp] theorem State.onNow_admission (f : Nat → Nat) : (s.onNow f).admission = s.admission := rfl
@[simp] theorem State.onNow_track (f : Nat → Nat) : (s.onNow f).track = s.track := rfl
@[simp] theorem State.onNow_timing (f : Nat → Nat) : (s.onNow f).timing = s.timing := rfl
@[simp] theorem State.onNow_geometry (f : Nat → Nat) : (s.onNow f).geometry = s.geometry := rfl
@[simp] theorem State.onNow_air (f : Nat → Nat) : (s.onNow f).air = s.air := rfl
@[simp] theorem State.onNow_outlets (f : Nat → Nat) : (s.onNow f).outlets = s.outlets := rfl
@[simp] theorem State.onNow_routes (f : Nat → Nat) : (s.onNow f).routes = s.routes := rfl
@[simp] theorem State.onNow_channels (f : Nat → Nat) : (s.onNow f).channels = s.channels := rfl
@[simp] theorem State.onNow_balances (f : Nat → Nat) : (s.onNow f).balances = s.balances := rfl
@[simp] theorem State.onNow_line (f : Nat → Nat) : (s.onNow f).line = s.line := rfl
@[simp] theorem State.onNow_link (f : Nat → Nat) : (s.onNow f).link = s.link := rfl
@[simp] theorem State.onNow_draws (f : Nat → Nat) : (s.onNow f).draws = s.draws := rfl
@[simp] theorem State.onNow_pending (f : Nat → Nat) : (s.onNow f).pending = s.pending := rfl

@[simp] theorem State.onSensing_now (f : Sensing → Sensing) : (s.onSensing f).now = s.now := rfl
@[simp] theorem State.onSensing_sensing (f : Sensing → Sensing) : (s.onSensing f).sensing = f s.sensing := rfl
@[simp] theorem State.onSensing_admission (f : Sensing → Sensing) : (s.onSensing f).admission = s.admission := rfl
@[simp] theorem State.onSensing_track (f : Sensing → Sensing) : (s.onSensing f).track = s.track := rfl
@[simp] theorem State.onSensing_timing (f : Sensing → Sensing) : (s.onSensing f).timing = s.timing := rfl
@[simp] theorem State.onSensing_geometry (f : Sensing → Sensing) : (s.onSensing f).geometry = s.geometry := rfl
@[simp] theorem State.onSensing_air (f : Sensing → Sensing) : (s.onSensing f).air = s.air := rfl
@[simp] theorem State.onSensing_outlets (f : Sensing → Sensing) : (s.onSensing f).outlets = s.outlets := rfl
@[simp] theorem State.onSensing_routes (f : Sensing → Sensing) : (s.onSensing f).routes = s.routes := rfl
@[simp] theorem State.onSensing_channels (f : Sensing → Sensing) : (s.onSensing f).channels = s.channels := rfl
@[simp] theorem State.onSensing_balances (f : Sensing → Sensing) : (s.onSensing f).balances = s.balances := rfl
@[simp] theorem State.onSensing_line (f : Sensing → Sensing) : (s.onSensing f).line = s.line := rfl
@[simp] theorem State.onSensing_link (f : Sensing → Sensing) : (s.onSensing f).link = s.link := rfl
@[simp] theorem State.onSensing_draws (f : Sensing → Sensing) : (s.onSensing f).draws = s.draws := rfl
@[simp] theorem State.onSensing_pending (f : Sensing → Sensing) : (s.onSensing f).pending = s.pending := rfl

@[simp] theorem State.onAdmission_now (f : Admission → Admission) : (s.onAdmission f).now = s.now := rfl
@[simp] theorem State.onAdmission_sensing (f : Admission → Admission) : (s.onAdmission f).sensing = s.sensing := rfl
@[simp] theorem State.onAdmission_admission (f : Admission → Admission) :
    (s.onAdmission f).admission = f s.admission := rfl
@[simp] theorem State.onAdmission_track (f : Admission → Admission) : (s.onAdmission f).track = s.track := rfl
@[simp] theorem State.onAdmission_timing (f : Admission → Admission) : (s.onAdmission f).timing = s.timing := rfl
@[simp] theorem State.onAdmission_geometry (f : Admission → Admission) :
    (s.onAdmission f).geometry = s.geometry := rfl
@[simp] theorem State.onAdmission_air (f : Admission → Admission) : (s.onAdmission f).air = s.air := rfl
@[simp] theorem State.onAdmission_outlets (f : Admission → Admission) : (s.onAdmission f).outlets = s.outlets := rfl
@[simp] theorem State.onAdmission_routes (f : Admission → Admission) : (s.onAdmission f).routes = s.routes := rfl
@[simp] theorem State.onAdmission_channels (f : Admission → Admission) :
    (s.onAdmission f).channels = s.channels := rfl
@[simp] theorem State.onAdmission_balances (f : Admission → Admission) :
    (s.onAdmission f).balances = s.balances := rfl
@[simp] theorem State.onAdmission_line (f : Admission → Admission) : (s.onAdmission f).line = s.line := rfl
@[simp] theorem State.onAdmission_link (f : Admission → Admission) : (s.onAdmission f).link = s.link := rfl
@[simp] theorem State.onAdmission_draws (f : Admission → Admission) : (s.onAdmission f).draws = s.draws := rfl
@[simp] theorem State.onAdmission_pending (f : Admission → Admission) : (s.onAdmission f).pending = s.pending := rfl

@[simp] theorem State.onTrack_now (f : Track → Track) : (s.onTrack f).now = s.now := rfl
@[simp] theorem State.onTrack_sensing (f : Track → Track) : (s.onTrack f).sensing = s.sensing := rfl
@[simp] theorem State.onTrack_admission (f : Track → Track) : (s.onTrack f).admission = s.admission := rfl
@[simp] theorem State.onTrack_track (f : Track → Track) : (s.onTrack f).track = f s.track := rfl
@[simp] theorem State.onTrack_timing (f : Track → Track) : (s.onTrack f).timing = s.timing := rfl
@[simp] theorem State.onTrack_geometry (f : Track → Track) : (s.onTrack f).geometry = s.geometry := rfl
@[simp] theorem State.onTrack_air (f : Track → Track) : (s.onTrack f).air = s.air := rfl
@[simp] theorem State.onTrack_outlets (f : Track → Track) : (s.onTrack f).outlets = s.outlets := rfl
@[simp] theorem State.onTrack_routes (f : Track → Track) : (s.onTrack f).routes = s.routes := rfl
@[simp] theorem State.onTrack_channels (f : Track → Track) : (s.onTrack f).channels = s.channels := rfl
@[simp] theorem State.onTrack_balances (f : Track → Track) : (s.onTrack f).balances = s.balances := rfl
@[simp] theorem State.onTrack_line (f : Track → Track) : (s.onTrack f).line = s.line := rfl
@[simp] theorem State.onTrack_link (f : Track → Track) : (s.onTrack f).link = s.link := rfl
@[simp] theorem State.onTrack_draws (f : Track → Track) : (s.onTrack f).draws = s.draws := rfl
@[simp] theorem State.onTrack_pending (f : Track → Track) : (s.onTrack f).pending = s.pending := rfl

@[simp] theorem State.onTimings_now (f : Vector OutletTiming 12 → Vector OutletTiming 12) :
    (s.onTimings f).now = s.now := rfl
@[simp] theorem State.onTimings_sensing (f : Vector OutletTiming 12 → Vector OutletTiming 12) :
    (s.onTimings f).sensing = s.sensing := rfl
@[simp] theorem State.onTimings_admission (f : Vector OutletTiming 12 → Vector OutletTiming 12) :
    (s.onTimings f).admission = s.admission := rfl
@[simp] theorem State.onTimings_track (f : Vector OutletTiming 12 → Vector OutletTiming 12) :
    (s.onTimings f).track = s.track := rfl
@[simp] theorem State.onTimings_timing (f : Vector OutletTiming 12 → Vector OutletTiming 12) :
    (s.onTimings f).timing = f s.timing := rfl
@[simp] theorem State.onTimings_geometry (f : Vector OutletTiming 12 → Vector OutletTiming 12) :
    (s.onTimings f).geometry = s.geometry := rfl
@[simp] theorem State.onTimings_air (f : Vector OutletTiming 12 → Vector OutletTiming 12) :
    (s.onTimings f).air = s.air := rfl
@[simp] theorem State.onTimings_outlets (f : Vector OutletTiming 12 → Vector OutletTiming 12) :
    (s.onTimings f).outlets = s.outlets := rfl
@[simp] theorem State.onTimings_routes (f : Vector OutletTiming 12 → Vector OutletTiming 12) :
    (s.onTimings f).routes = s.routes := rfl
@[simp] theorem State.onTimings_channels (f : Vector OutletTiming 12 → Vector OutletTiming 12) :
    (s.onTimings f).channels = s.channels := rfl
@[simp] theorem State.onTimings_balances (f : Vector OutletTiming 12 → Vector OutletTiming 12) :
    (s.onTimings f).balances = s.balances := rfl
@[simp] theorem State.onTimings_line (f : Vector OutletTiming 12 → Vector OutletTiming 12) :
    (s.onTimings f).line = s.line := rfl
@[simp] theorem State.onTimings_link (f : Vector OutletTiming 12 → Vector OutletTiming 12) :
    (s.onTimings f).link = s.link := rfl
@[simp] theorem State.onTimings_draws (f : Vector OutletTiming 12 → Vector OutletTiming 12) :
    (s.onTimings f).draws = s.draws := rfl
@[simp] theorem State.onTimings_pending (f : Vector OutletTiming 12 → Vector OutletTiming 12) :
    (s.onTimings f).pending = s.pending := rfl

@[simp] theorem State.onTiming_now (k : OutletId) (f : OutletTiming → OutletTiming) :
    (s.onTiming k f).now = s.now := rfl
@[simp] theorem State.onTiming_sensing (k : OutletId) (f : OutletTiming → OutletTiming) :
    (s.onTiming k f).sensing = s.sensing := rfl
@[simp] theorem State.onTiming_admission (k : OutletId) (f : OutletTiming → OutletTiming) :
    (s.onTiming k f).admission = s.admission := rfl
@[simp] theorem State.onTiming_track (k : OutletId) (f : OutletTiming → OutletTiming) :
    (s.onTiming k f).track = s.track := rfl
@[simp] theorem State.onTiming_timing (k : OutletId) (f : OutletTiming → OutletTiming) :
    (s.onTiming k f).timing = s.timing.set k (f s.timing[k]) := rfl
@[simp] theorem State.onTiming_geometry (k : OutletId) (f : OutletTiming → OutletTiming) :
    (s.onTiming k f).geometry = s.geometry := rfl
@[simp] theorem State.onTiming_air (k : OutletId) (f : OutletTiming → OutletTiming) :
    (s.onTiming k f).air = s.air := rfl
@[simp] theorem State.onTiming_outlets (k : OutletId) (f : OutletTiming → OutletTiming) :
    (s.onTiming k f).outlets = s.outlets := rfl
@[simp] theorem State.onTiming_routes (k : OutletId) (f : OutletTiming → OutletTiming) :
    (s.onTiming k f).routes = s.routes := rfl
@[simp] theorem State.onTiming_channels (k : OutletId) (f : OutletTiming → OutletTiming) :
    (s.onTiming k f).channels = s.channels := rfl
@[simp] theorem State.onTiming_balances (k : OutletId) (f : OutletTiming → OutletTiming) :
    (s.onTiming k f).balances = s.balances := rfl
@[simp] theorem State.onTiming_line (k : OutletId) (f : OutletTiming → OutletTiming) :
    (s.onTiming k f).line = s.line := rfl
@[simp] theorem State.onTiming_link (k : OutletId) (f : OutletTiming → OutletTiming) :
    (s.onTiming k f).link = s.link := rfl
@[simp] theorem State.onTiming_draws (k : OutletId) (f : OutletTiming → OutletTiming) :
    (s.onTiming k f).draws = s.draws := rfl
@[simp] theorem State.onTiming_pending (k : OutletId) (f : OutletTiming → OutletTiming) :
    (s.onTiming k f).pending = s.pending := rfl

@[simp] theorem State.onGeometry_now (f : Geometry → Geometry) : (s.onGeometry f).now = s.now := rfl
@[simp] theorem State.onGeometry_sensing (f : Geometry → Geometry) : (s.onGeometry f).sensing = s.sensing := rfl
@[simp] theorem State.onGeometry_admission (f : Geometry → Geometry) :
    (s.onGeometry f).admission = s.admission := rfl
@[simp] theorem State.onGeometry_track (f : Geometry → Geometry) : (s.onGeometry f).track = s.track := rfl
@[simp] theorem State.onGeometry_timing (f : Geometry → Geometry) : (s.onGeometry f).timing = s.timing := rfl
@[simp] theorem State.onGeometry_geometry (f : Geometry → Geometry) : (s.onGeometry f).geometry = f s.geometry := rfl
@[simp] theorem State.onGeometry_air (f : Geometry → Geometry) : (s.onGeometry f).air = s.air := rfl
@[simp] theorem State.onGeometry_outlets (f : Geometry → Geometry) : (s.onGeometry f).outlets = s.outlets := rfl
@[simp] theorem State.onGeometry_routes (f : Geometry → Geometry) : (s.onGeometry f).routes = s.routes := rfl
@[simp] theorem State.onGeometry_channels (f : Geometry → Geometry) : (s.onGeometry f).channels = s.channels := rfl
@[simp] theorem State.onGeometry_balances (f : Geometry → Geometry) : (s.onGeometry f).balances = s.balances := rfl
@[simp] theorem State.onGeometry_line (f : Geometry → Geometry) : (s.onGeometry f).line = s.line := rfl
@[simp] theorem State.onGeometry_link (f : Geometry → Geometry) : (s.onGeometry f).link = s.link := rfl
@[simp] theorem State.onGeometry_draws (f : Geometry → Geometry) : (s.onGeometry f).draws = s.draws := rfl
@[simp] theorem State.onGeometry_pending (f : Geometry → Geometry) : (s.onGeometry f).pending = s.pending := rfl

@[simp] theorem State.onAir_now (f : Air → Air) : (s.onAir f).now = s.now := rfl
@[simp] theorem State.onAir_sensing (f : Air → Air) : (s.onAir f).sensing = s.sensing := rfl
@[simp] theorem State.onAir_admission (f : Air → Air) : (s.onAir f).admission = s.admission := rfl
@[simp] theorem State.onAir_track (f : Air → Air) : (s.onAir f).track = s.track := rfl
@[simp] theorem State.onAir_timing (f : Air → Air) : (s.onAir f).timing = s.timing := rfl
@[simp] theorem State.onAir_geometry (f : Air → Air) : (s.onAir f).geometry = s.geometry := rfl
@[simp] theorem State.onAir_air (f : Air → Air) : (s.onAir f).air = f s.air := rfl
@[simp] theorem State.onAir_outlets (f : Air → Air) : (s.onAir f).outlets = s.outlets := rfl
@[simp] theorem State.onAir_routes (f : Air → Air) : (s.onAir f).routes = s.routes := rfl
@[simp] theorem State.onAir_channels (f : Air → Air) : (s.onAir f).channels = s.channels := rfl
@[simp] theorem State.onAir_balances (f : Air → Air) : (s.onAir f).balances = s.balances := rfl
@[simp] theorem State.onAir_line (f : Air → Air) : (s.onAir f).line = s.line := rfl
@[simp] theorem State.onAir_link (f : Air → Air) : (s.onAir f).link = s.link := rfl
@[simp] theorem State.onAir_draws (f : Air → Air) : (s.onAir f).draws = s.draws := rfl
@[simp] theorem State.onAir_pending (f : Air → Air) : (s.onAir f).pending = s.pending := rfl

@[simp] theorem State.onOutlets_now (f : Vector Outlet 12 → Vector Outlet 12) : (s.onOutlets f).now = s.now := rfl
@[simp] theorem State.onOutlets_sensing (f : Vector Outlet 12 → Vector Outlet 12) :
    (s.onOutlets f).sensing = s.sensing := rfl
@[simp] theorem State.onOutlets_admission (f : Vector Outlet 12 → Vector Outlet 12) :
    (s.onOutlets f).admission = s.admission := rfl
@[simp] theorem State.onOutlets_track (f : Vector Outlet 12 → Vector Outlet 12) :
    (s.onOutlets f).track = s.track := rfl
@[simp] theorem State.onOutlets_timing (f : Vector Outlet 12 → Vector Outlet 12) :
    (s.onOutlets f).timing = s.timing := rfl
@[simp] theorem State.onOutlets_geometry (f : Vector Outlet 12 → Vector Outlet 12) :
    (s.onOutlets f).geometry = s.geometry := rfl
@[simp] theorem State.onOutlets_air (f : Vector Outlet 12 → Vector Outlet 12) : (s.onOutlets f).air = s.air := rfl
@[simp] theorem State.onOutlets_outlets (f : Vector Outlet 12 → Vector Outlet 12) :
    (s.onOutlets f).outlets = f s.outlets := rfl
@[simp] theorem State.onOutlets_routes (f : Vector Outlet 12 → Vector Outlet 12) :
    (s.onOutlets f).routes = s.routes := rfl
@[simp] theorem State.onOutlets_channels (f : Vector Outlet 12 → Vector Outlet 12) :
    (s.onOutlets f).channels = s.channels := rfl
@[simp] theorem State.onOutlets_balances (f : Vector Outlet 12 → Vector Outlet 12) :
    (s.onOutlets f).balances = s.balances := rfl
@[simp] theorem State.onOutlets_line (f : Vector Outlet 12 → Vector Outlet 12) : (s.onOutlets f).line = s.line := rfl
@[simp] theorem State.onOutlets_link (f : Vector Outlet 12 → Vector Outlet 12) : (s.onOutlets f).link = s.link := rfl
@[simp] theorem State.onOutlets_draws (f : Vector Outlet 12 → Vector Outlet 12) :
    (s.onOutlets f).draws = s.draws := rfl
@[simp] theorem State.onOutlets_pending (f : Vector Outlet 12 → Vector Outlet 12) :
    (s.onOutlets f).pending = s.pending := rfl

@[simp] theorem State.onOutlet_now (k : OutletId) (f : Outlet → Outlet) : (s.onOutlet k f).now = s.now := rfl
@[simp] theorem State.onOutlet_sensing (k : OutletId) (f : Outlet → Outlet) :
    (s.onOutlet k f).sensing = s.sensing := rfl
@[simp] theorem State.onOutlet_admission (k : OutletId) (f : Outlet → Outlet) :
    (s.onOutlet k f).admission = s.admission := rfl
@[simp] theorem State.onOutlet_track (k : OutletId) (f : Outlet → Outlet) : (s.onOutlet k f).track = s.track := rfl
@[simp] theorem State.onOutlet_timing (k : OutletId) (f : Outlet → Outlet) :
    (s.onOutlet k f).timing = s.timing := rfl
@[simp] theorem State.onOutlet_geometry (k : OutletId) (f : Outlet → Outlet) :
    (s.onOutlet k f).geometry = s.geometry := rfl
@[simp] theorem State.onOutlet_air (k : OutletId) (f : Outlet → Outlet) : (s.onOutlet k f).air = s.air := rfl
@[simp] theorem State.onOutlet_outlets (k : OutletId) (f : Outlet → Outlet) :
    (s.onOutlet k f).outlets = s.outlets.set k (f s.outlets[k]) := rfl
@[simp] theorem State.onOutlet_routes (k : OutletId) (f : Outlet → Outlet) :
    (s.onOutlet k f).routes = s.routes := rfl
@[simp] theorem State.onOutlet_channels (k : OutletId) (f : Outlet → Outlet) :
    (s.onOutlet k f).channels = s.channels := rfl
@[simp] theorem State.onOutlet_balances (k : OutletId) (f : Outlet → Outlet) :
    (s.onOutlet k f).balances = s.balances := rfl
@[simp] theorem State.onOutlet_line (k : OutletId) (f : Outlet → Outlet) : (s.onOutlet k f).line = s.line := rfl
@[simp] theorem State.onOutlet_link (k : OutletId) (f : Outlet → Outlet) : (s.onOutlet k f).link = s.link := rfl
@[simp] theorem State.onOutlet_draws (k : OutletId) (f : Outlet → Outlet) : (s.onOutlet k f).draws = s.draws := rfl
@[simp] theorem State.onOutlet_pending (k : OutletId) (f : Outlet → Outlet) :
    (s.onOutlet k f).pending = s.pending := rfl

@[simp] theorem State.onRoutes_now (f : Vector RouteRow 7 → Vector RouteRow 7) : (s.onRoutes f).now = s.now := rfl
@[simp] theorem State.onRoutes_sensing (f : Vector RouteRow 7 → Vector RouteRow 7) :
    (s.onRoutes f).sensing = s.sensing := rfl
@[simp] theorem State.onRoutes_admission (f : Vector RouteRow 7 → Vector RouteRow 7) :
    (s.onRoutes f).admission = s.admission := rfl
@[simp] theorem State.onRoutes_track (f : Vector RouteRow 7 → Vector RouteRow 7) :
    (s.onRoutes f).track = s.track := rfl
@[simp] theorem State.onRoutes_timing (f : Vector RouteRow 7 → Vector RouteRow 7) :
    (s.onRoutes f).timing = s.timing := rfl
@[simp] theorem State.onRoutes_geometry (f : Vector RouteRow 7 → Vector RouteRow 7) :
    (s.onRoutes f).geometry = s.geometry := rfl
@[simp] theorem State.onRoutes_air (f : Vector RouteRow 7 → Vector RouteRow 7) : (s.onRoutes f).air = s.air := rfl
@[simp] theorem State.onRoutes_outlets (f : Vector RouteRow 7 → Vector RouteRow 7) :
    (s.onRoutes f).outlets = s.outlets := rfl
@[simp] theorem State.onRoutes_routes (f : Vector RouteRow 7 → Vector RouteRow 7) :
    (s.onRoutes f).routes = f s.routes := rfl
@[simp] theorem State.onRoutes_channels (f : Vector RouteRow 7 → Vector RouteRow 7) :
    (s.onRoutes f).channels = s.channels := rfl
@[simp] theorem State.onRoutes_balances (f : Vector RouteRow 7 → Vector RouteRow 7) :
    (s.onRoutes f).balances = s.balances := rfl
@[simp] theorem State.onRoutes_line (f : Vector RouteRow 7 → Vector RouteRow 7) : (s.onRoutes f).line = s.line := rfl
@[simp] theorem State.onRoutes_link (f : Vector RouteRow 7 → Vector RouteRow 7) : (s.onRoutes f).link = s.link := rfl
@[simp] theorem State.onRoutes_draws (f : Vector RouteRow 7 → Vector RouteRow 7) :
    (s.onRoutes f).draws = s.draws := rfl
@[simp] theorem State.onRoutes_pending (f : Vector RouteRow 7 → Vector RouteRow 7) :
    (s.onRoutes f).pending = s.pending := rfl

@[simp] theorem State.onChannels_now (f : Vector Channel 14 → Vector Channel 14) :
    (s.onChannels f).now = s.now := rfl
@[simp] theorem State.onChannels_sensing (f : Vector Channel 14 → Vector Channel 14) :
    (s.onChannels f).sensing = s.sensing := rfl
@[simp] theorem State.onChannels_admission (f : Vector Channel 14 → Vector Channel 14) :
    (s.onChannels f).admission = s.admission := rfl
@[simp] theorem State.onChannels_track (f : Vector Channel 14 → Vector Channel 14) :
    (s.onChannels f).track = s.track := rfl
@[simp] theorem State.onChannels_timing (f : Vector Channel 14 → Vector Channel 14) :
    (s.onChannels f).timing = s.timing := rfl
@[simp] theorem State.onChannels_geometry (f : Vector Channel 14 → Vector Channel 14) :
    (s.onChannels f).geometry = s.geometry := rfl
@[simp] theorem State.onChannels_air (f : Vector Channel 14 → Vector Channel 14) :
    (s.onChannels f).air = s.air := rfl
@[simp] theorem State.onChannels_outlets (f : Vector Channel 14 → Vector Channel 14) :
    (s.onChannels f).outlets = s.outlets := rfl
@[simp] theorem State.onChannels_routes (f : Vector Channel 14 → Vector Channel 14) :
    (s.onChannels f).routes = s.routes := rfl
@[simp] theorem State.onChannels_channels (f : Vector Channel 14 → Vector Channel 14) :
    (s.onChannels f).channels = f s.channels := rfl
@[simp] theorem State.onChannels_balances (f : Vector Channel 14 → Vector Channel 14) :
    (s.onChannels f).balances = s.balances := rfl
@[simp] theorem State.onChannels_line (f : Vector Channel 14 → Vector Channel 14) :
    (s.onChannels f).line = s.line := rfl
@[simp] theorem State.onChannels_link (f : Vector Channel 14 → Vector Channel 14) :
    (s.onChannels f).link = s.link := rfl
@[simp] theorem State.onChannels_draws (f : Vector Channel 14 → Vector Channel 14) :
    (s.onChannels f).draws = s.draws := rfl
@[simp] theorem State.onChannels_pending (f : Vector Channel 14 → Vector Channel 14) :
    (s.onChannels f).pending = s.pending := rfl

@[simp] theorem State.onChannel_now (c : ChannelId) (f : Channel → Channel) : (s.onChannel c f).now = s.now := rfl
@[simp] theorem State.onChannel_sensing (c : ChannelId) (f : Channel → Channel) :
    (s.onChannel c f).sensing = s.sensing := rfl
@[simp] theorem State.onChannel_admission (c : ChannelId) (f : Channel → Channel) :
    (s.onChannel c f).admission = s.admission := rfl
@[simp] theorem State.onChannel_track (c : ChannelId) (f : Channel → Channel) :
    (s.onChannel c f).track = s.track := rfl
@[simp] theorem State.onChannel_timing (c : ChannelId) (f : Channel → Channel) :
    (s.onChannel c f).timing = s.timing := rfl
@[simp] theorem State.onChannel_geometry (c : ChannelId) (f : Channel → Channel) :
    (s.onChannel c f).geometry = s.geometry := rfl
@[simp] theorem State.onChannel_air (c : ChannelId) (f : Channel → Channel) : (s.onChannel c f).air = s.air := rfl
@[simp] theorem State.onChannel_outlets (c : ChannelId) (f : Channel → Channel) :
    (s.onChannel c f).outlets = s.outlets := rfl
@[simp] theorem State.onChannel_routes (c : ChannelId) (f : Channel → Channel) :
    (s.onChannel c f).routes = s.routes := rfl
@[simp] theorem State.onChannel_channels (c : ChannelId) (f : Channel → Channel) :
    (s.onChannel c f).channels = s.channels.set c (f s.channels[c]) := rfl
@[simp] theorem State.onChannel_balances (c : ChannelId) (f : Channel → Channel) :
    (s.onChannel c f).balances = s.balances := rfl
@[simp] theorem State.onChannel_line (c : ChannelId) (f : Channel → Channel) : (s.onChannel c f).line = s.line := rfl
@[simp] theorem State.onChannel_link (c : ChannelId) (f : Channel → Channel) : (s.onChannel c f).link = s.link := rfl
@[simp] theorem State.onChannel_draws (c : ChannelId) (f : Channel → Channel) :
    (s.onChannel c f).draws = s.draws := rfl
@[simp] theorem State.onChannel_pending (c : ChannelId) (f : Channel → Channel) :
    (s.onChannel c f).pending = s.pending := rfl

@[simp] theorem State.onBalance_now (c : Fin 6) (f : Balance → Balance) : (s.onBalance c f).now = s.now := rfl
@[simp] theorem State.onBalance_sensing (c : Fin 6) (f : Balance → Balance) :
    (s.onBalance c f).sensing = s.sensing := rfl
@[simp] theorem State.onBalance_admission (c : Fin 6) (f : Balance → Balance) :
    (s.onBalance c f).admission = s.admission := rfl
@[simp] theorem State.onBalance_track (c : Fin 6) (f : Balance → Balance) : (s.onBalance c f).track = s.track := rfl
@[simp] theorem State.onBalance_timing (c : Fin 6) (f : Balance → Balance) :
    (s.onBalance c f).timing = s.timing := rfl
@[simp] theorem State.onBalance_geometry (c : Fin 6) (f : Balance → Balance) :
    (s.onBalance c f).geometry = s.geometry := rfl
@[simp] theorem State.onBalance_air (c : Fin 6) (f : Balance → Balance) : (s.onBalance c f).air = s.air := rfl
@[simp] theorem State.onBalance_outlets (c : Fin 6) (f : Balance → Balance) :
    (s.onBalance c f).outlets = s.outlets := rfl
@[simp] theorem State.onBalance_routes (c : Fin 6) (f : Balance → Balance) :
    (s.onBalance c f).routes = s.routes := rfl
@[simp] theorem State.onBalance_channels (c : Fin 6) (f : Balance → Balance) :
    (s.onBalance c f).channels = s.channels := rfl
@[simp] theorem State.onBalance_balances (c : Fin 6) (f : Balance → Balance) :
    (s.onBalance c f).balances = s.balances.set c (f s.balances[c]) := rfl
@[simp] theorem State.onBalance_line (c : Fin 6) (f : Balance → Balance) : (s.onBalance c f).line = s.line := rfl
@[simp] theorem State.onBalance_link (c : Fin 6) (f : Balance → Balance) : (s.onBalance c f).link = s.link := rfl
@[simp] theorem State.onBalance_draws (c : Fin 6) (f : Balance → Balance) : (s.onBalance c f).draws = s.draws := rfl
@[simp] theorem State.onBalance_pending (c : Fin 6) (f : Balance → Balance) :
    (s.onBalance c f).pending = s.pending := rfl

@[simp] theorem State.onLine_now (f : Line → Line) : (s.onLine f).now = s.now := rfl
@[simp] theorem State.onLine_sensing (f : Line → Line) : (s.onLine f).sensing = s.sensing := rfl
@[simp] theorem State.onLine_admission (f : Line → Line) : (s.onLine f).admission = s.admission := rfl
@[simp] theorem State.onLine_track (f : Line → Line) : (s.onLine f).track = s.track := rfl
@[simp] theorem State.onLine_timing (f : Line → Line) : (s.onLine f).timing = s.timing := rfl
@[simp] theorem State.onLine_geometry (f : Line → Line) : (s.onLine f).geometry = s.geometry := rfl
@[simp] theorem State.onLine_air (f : Line → Line) : (s.onLine f).air = s.air := rfl
@[simp] theorem State.onLine_outlets (f : Line → Line) : (s.onLine f).outlets = s.outlets := rfl
@[simp] theorem State.onLine_routes (f : Line → Line) : (s.onLine f).routes = s.routes := rfl
@[simp] theorem State.onLine_channels (f : Line → Line) : (s.onLine f).channels = s.channels := rfl
@[simp] theorem State.onLine_balances (f : Line → Line) : (s.onLine f).balances = s.balances := rfl
@[simp] theorem State.onLine_line (f : Line → Line) : (s.onLine f).line = f s.line := rfl
@[simp] theorem State.onLine_link (f : Line → Line) : (s.onLine f).link = s.link := rfl
@[simp] theorem State.onLine_draws (f : Line → Line) : (s.onLine f).draws = s.draws := rfl
@[simp] theorem State.onLine_pending (f : Line → Line) : (s.onLine f).pending = s.pending := rfl

@[simp] theorem State.onLink_now (f : Link → Link) : (s.onLink f).now = s.now := rfl
@[simp] theorem State.onLink_sensing (f : Link → Link) : (s.onLink f).sensing = s.sensing := rfl
@[simp] theorem State.onLink_admission (f : Link → Link) : (s.onLink f).admission = s.admission := rfl
@[simp] theorem State.onLink_track (f : Link → Link) : (s.onLink f).track = s.track := rfl
@[simp] theorem State.onLink_timing (f : Link → Link) : (s.onLink f).timing = s.timing := rfl
@[simp] theorem State.onLink_geometry (f : Link → Link) : (s.onLink f).geometry = s.geometry := rfl
@[simp] theorem State.onLink_air (f : Link → Link) : (s.onLink f).air = s.air := rfl
@[simp] theorem State.onLink_outlets (f : Link → Link) : (s.onLink f).outlets = s.outlets := rfl
@[simp] theorem State.onLink_routes (f : Link → Link) : (s.onLink f).routes = s.routes := rfl
@[simp] theorem State.onLink_channels (f : Link → Link) : (s.onLink f).channels = s.channels := rfl
@[simp] theorem State.onLink_balances (f : Link → Link) : (s.onLink f).balances = s.balances := rfl
@[simp] theorem State.onLink_line (f : Link → Link) : (s.onLink f).line = s.line := rfl
@[simp] theorem State.onLink_link (f : Link → Link) : (s.onLink f).link = f s.link := rfl
@[simp] theorem State.onLink_draws (f : Link → Link) : (s.onLink f).draws = s.draws := rfl
@[simp] theorem State.onLink_pending (f : Link → Link) : (s.onLink f).pending = s.pending := rfl

@[simp] theorem State.onStation_now (a : StationId) (f : StationLink → StationLink) :
    (s.onStation a f).now = s.now := rfl
@[simp] theorem State.onStation_sensing (a : StationId) (f : StationLink → StationLink) :
    (s.onStation a f).sensing = s.sensing := rfl
@[simp] theorem State.onStation_admission (a : StationId) (f : StationLink → StationLink) :
    (s.onStation a f).admission = s.admission := rfl
@[simp] theorem State.onStation_track (a : StationId) (f : StationLink → StationLink) :
    (s.onStation a f).track = s.track := rfl
@[simp] theorem State.onStation_timing (a : StationId) (f : StationLink → StationLink) :
    (s.onStation a f).timing = s.timing := rfl
@[simp] theorem State.onStation_geometry (a : StationId) (f : StationLink → StationLink) :
    (s.onStation a f).geometry = s.geometry := rfl
@[simp] theorem State.onStation_air (a : StationId) (f : StationLink → StationLink) :
    (s.onStation a f).air = s.air := rfl
@[simp] theorem State.onStation_outlets (a : StationId) (f : StationLink → StationLink) :
    (s.onStation a f).outlets = s.outlets := rfl
@[simp] theorem State.onStation_routes (a : StationId) (f : StationLink → StationLink) :
    (s.onStation a f).routes = s.routes := rfl
@[simp] theorem State.onStation_channels (a : StationId) (f : StationLink → StationLink) :
    (s.onStation a f).channels = s.channels := rfl
@[simp] theorem State.onStation_balances (a : StationId) (f : StationLink → StationLink) :
    (s.onStation a f).balances = s.balances := rfl
@[simp] theorem State.onStation_line (a : StationId) (f : StationLink → StationLink) :
    (s.onStation a f).line = s.line := rfl
@[simp] theorem State.onStation_link (a : StationId) (f : StationLink → StationLink) :
    (s.onStation a f).link = { s.link with stations := s.link.stations.set a (f s.link.stations[a]) } := rfl
@[simp] theorem State.onStation_draws (a : StationId) (f : StationLink → StationLink) :
    (s.onStation a f).draws = s.draws := rfl
@[simp] theorem State.onStation_pending (a : StationId) (f : StationLink → StationLink) :
    (s.onStation a f).pending = s.pending := rfl

@[simp] theorem State.onDraws_now (f : Nat → Nat) : (s.onDraws f).now = s.now := rfl
@[simp] theorem State.onDraws_sensing (f : Nat → Nat) : (s.onDraws f).sensing = s.sensing := rfl
@[simp] theorem State.onDraws_admission (f : Nat → Nat) : (s.onDraws f).admission = s.admission := rfl
@[simp] theorem State.onDraws_track (f : Nat → Nat) : (s.onDraws f).track = s.track := rfl
@[simp] theorem State.onDraws_timing (f : Nat → Nat) : (s.onDraws f).timing = s.timing := rfl
@[simp] theorem State.onDraws_geometry (f : Nat → Nat) : (s.onDraws f).geometry = s.geometry := rfl
@[simp] theorem State.onDraws_air (f : Nat → Nat) : (s.onDraws f).air = s.air := rfl
@[simp] theorem State.onDraws_outlets (f : Nat → Nat) : (s.onDraws f).outlets = s.outlets := rfl
@[simp] theorem State.onDraws_routes (f : Nat → Nat) : (s.onDraws f).routes = s.routes := rfl
@[simp] theorem State.onDraws_channels (f : Nat → Nat) : (s.onDraws f).channels = s.channels := rfl
@[simp] theorem State.onDraws_balances (f : Nat → Nat) : (s.onDraws f).balances = s.balances := rfl
@[simp] theorem State.onDraws_line (f : Nat → Nat) : (s.onDraws f).line = s.line := rfl
@[simp] theorem State.onDraws_link (f : Nat → Nat) : (s.onDraws f).link = s.link := rfl
@[simp] theorem State.onDraws_draws (f : Nat → Nat) : (s.onDraws f).draws = f s.draws := rfl
@[simp] theorem State.onDraws_pending (f : Nat → Nat) : (s.onDraws f).pending = s.pending := rfl

/-- One entry of `outlets` after a change of one entry. -/
theorem State.onOutlet_get (k j : OutletId) (f : Outlet → Outlet) :
    (s.onOutlet k f).outlets[j] = if j = k then f s.outlets[j] else s.outlets[j] := by
  by_cases h : j = k
  · subst h; simp
  · have h' : k.val ≠ j.val := fun e => h (Fin.ext e.symm)
    simp [h, h']

/-- One entry of `timing` after a change of one entry. -/
theorem State.onTiming_get (k j : OutletId) (f : OutletTiming → OutletTiming) :
    (s.onTiming k f).timing[j] = if j = k then f s.timing[j] else s.timing[j] := by
  by_cases h : j = k
  · subst h; simp
  · have h' : k.val ≠ j.val := fun e => h (Fin.ext e.symm)
    simp [h, h']

/-- One entry of `channels` after a change of one entry. -/
theorem State.onChannel_get (k j : ChannelId) (f : Channel → Channel) :
    (s.onChannel k f).channels[j] = if j = k then f s.channels[j] else s.channels[j] := by
  by_cases h : j = k
  · subst h; simp
  · have h' : k.val ≠ j.val := fun e => h (Fin.ext e.symm)
    simp [h, h']

/-- One entry of `balances` after a change of one entry. -/
theorem State.onBalance_get (k j : Fin 6) (f : Balance → Balance) :
    (s.onBalance k f).balances[j] = if j = k then f s.balances[j] else s.balances[j] := by
  by_cases h : j = k
  · subst h; simp
  · have h' : k.val ≠ j.val := fun e => h (Fin.ext e.symm)
    simp [h, h']

end Sys2Proof.Machine
end

