-- ==== Sys2Proof/Laws/Diversion.lean ====
section
/-! SUPPORT. What the diversion machinery can touch: every presentation, grant, loss of acceptance, fallback and
window evaluation stays within `DiversionFrame`. -/

namespace Sys2Proof.Machine

open Sys2Proof

/-! ## The frame composes -/

theorem DiversionFrame.refl (s : State) : DiversionFrame s s where
  now := rfl
  sensing := rfl
  admission := rfl
  track := rfl
  timing _ := rfl
  geometry := rfl
  air := rfl
  outlets _ := rfl
  queues _ := List.prefix_refl _
  routes := rfl
  channels := rfl
  balances := rfl
  line := rfl
  link := rfl
  draws := rfl
  pending := rfl

theorem DiversionFrame.trans {s t u : State} (h : DiversionFrame s t) (g : DiversionFrame t u) :
    DiversionFrame s u where
  now := g.now.trans h.now
  sensing := g.sensing.trans h.sensing
  admission := g.admission.trans h.admission
  track := by rw [g.track, h.track]
  timing k := by rw [g.timing k, h.timing k]
  geometry := g.geometry.trans h.geometry
  air := by rw [g.air, h.air]
  outlets k := by rw [g.outlets k, h.outlets k]
  queues k := (h.queues k).trans (g.queues k)
  routes := g.routes.trans h.routes
  channels := g.channels.trans h.channels
  balances := g.balances.trans h.balances
  line := g.line.trans h.line
  link := g.link.trans h.link
  draws := g.draws.trans h.draws
  pending := g.pending.trans h.pending

/-- A fold of operations that each keep the frame keeps it. -/
theorem DiversionFrame.foldl {α : Type} (f : State → α → State) (hf : ∀ s a, DiversionFrame s (f s a)) :
    ∀ (l : List α) (s : State), DiversionFrame s (l.foldl f s)
  | [], s => .refl s
  | a :: l, s => (hf s a).trans (DiversionFrame.foldl f hf l (f s a))

/-! ## Primitive changes -/

theorem DiversionFrame.onTrackRecords (s : State) (f : Track → List TrackRecord) :
    DiversionFrame s (s.onTrack fun t => { t with records := f t }) := by
  constructor <;> intros <;> simp [State.onTrack]

theorem setRequest_diversion (k : OutletId) (r : Option SequenceTag) (s : State) :
    DiversionFrame s (setRequest k r s) := by
  constructor <;> intros <;> simp [setRequest]

theorem updateRecord_diversion (tag : SequenceTag) (f : TrackRecord → TrackRecord) (s : State) :
    DiversionFrame s (updateRecord tag f s) :=
  DiversionFrame.onTrackRecords s _

theorem removeRecord_diversion (tag : SequenceTag) (s : State) : DiversionFrame s (removeRecord tag s) :=
  DiversionFrame.onTrackRecords s _

theorem lastPulse_diversion (k : OutletId) (p : PulseRecord) (s : State) :
    DiversionFrame s (s.onTiming k fun t => { t with lastPulse := p }) := by
  constructor
  case timing => intro j; rw [State.onTiming_get]; split <;> simp_all
  all_goals intros; simp

theorem pulses_diversion (f : Air → Vector (Option Pulse) 12) (s : State) :
    DiversionFrame s (s.onAir fun a => { a with pulses := f a }) := by
  constructor <;> intros <;> simp

theorem grants_diversion (f : Air → OutletId) (g : Air → DeviceCount) (s : State) :
    DiversionFrame s (s.onAir fun a => { a with rotationMark := f a, grants := g a }) := by
  constructor <;> intros <;> simp

theorem appendEntry_diversion (k : OutletId) (e : ConfirmEntry) (s : State) :
    DiversionFrame s (s.onOutlet k fun o => { o with queue := o.queue ++ [e] }) := by
  constructor
  case outlets => intro j; rw [State.onOutlet_get]; split <;> simp_all
  case queues => intro j; rw [State.onOutlet_get]; split <;> simp_all
  all_goals intros; simp

/-! ## Presenting, granting and falling back -/

theorem reconsider_diversion (k : OutletId) (s : State) : DiversionFrame s (reconsider k s).1 := by
  unfold reconsider
  split
  · exact .refl s
  · split
    · exact setRequest_diversion k none s
    · split
      · exact .refl s
      · exact setRequest_diversion k _ s

theorem presentQuietly_diversion (k : OutletId) (s : State) : DiversionFrame s (presentQuietly k s) :=
  reconsider_diversion k s

theorem withdraw_diversion (k : OutletId) (tag : SequenceTag) (s : State) :
    DiversionFrame s (withdraw k tag s) := by
  unfold withdraw
  split
  · exact setRequest_diversion k none s
  · exact .refl s

theorem presentTarget_diversion {pres : OutletId → State → State} (hp : ∀ k s, DiversionFrame s (pres k s))
    (r : TrackRecord) (s : State) : DiversionFrame s (presentTarget pres r s) := by
  unfold presentTarget
  split
  · exact hp _ s
  · exact .refl s

theorem turnAway_diversion {pres : OutletId → State → State} (hp : ∀ k s, DiversionFrame s (pres k s))
    (k : OutletId) (s : State) (tag : SequenceTag) : DiversionFrame s (turnAway pres k s tag) := by
  unfold turnAway
  split
  · exact .refl s
  · split
    · exact ((withdraw_diversion k tag s).trans (updateRecord_diversion _ _ _)).trans
        (presentTarget_diversion hp _ _)
    · exact .refl s

theorem lossOfAcceptance_diversion {pres : OutletId → State → State} (hp : ∀ k s, DiversionFrame s (pres k s))
    (k : OutletId) (s : State) : DiversionFrame s (lossOfAcceptance pres k s) :=
  .foldl _ (turnAway_diversion hp k) _ s

theorem reportLoss_diversion {pres : OutletId → State → State} (hp : ∀ k s, DiversionFrame s (pres k s))
    (k : OutletId) (before : Bool) (s : State) : DiversionFrame s (reportLoss pres k before s) := by
  unfold reportLoss
  split
  · exact lossOfAcceptance_diversion hp k s
  · exact .refl s

theorem grant_diversion (k : OutletId) (s : State) : DiversionFrame s (grant k s) := by
  unfold grant
  split
  · exact .refl s
  · split
    · exact setRequest_diversion k none s
    · dsimp only
      refine DiversionFrame.trans ?_ (grants_diversion _ _ _)
      refine DiversionFrame.trans ?_ (reportLoss_diversion presentQuietly_diversion k _ _)
      refine DiversionFrame.trans ?_ (appendEntry_diversion k _ _)
      refine DiversionFrame.trans ?_ (removeRecord_diversion _ _)
      refine DiversionFrame.trans ?_ (pulses_diversion _ _)
      exact (setRequest_diversion k none s).trans (lastPulse_diversion k _ _)

theorem grantOne_diversion (s : State) : DiversionFrame s (grantOne s) := by
  unfold grantOne
  split
  · split
    · exact .refl s
    · exact grant_diversion _ s
  · exact .refl s

/-- An examination for a grant. -/
theorem examine_diversion (s : State) : DiversionFrame s (examine s) :=
  (grantOne_diversion s).trans (grantOne_diversion _)

/-- A presentation with its examination. -/
theorem present_diversion (k : OutletId) (s : State) : DiversionFrame s (present k s) := by
  unfold present
  dsimp only
  split
  · exact (reconsider_diversion k s).trans (examine_diversion _)
  · exact reconsider_diversion k s

theorem takeFallback_diversion (k : OutletId) (r : TrackRecord) (s : State) :
    DiversionFrame s (takeFallback k r s) := by
  unfold takeFallback
  dsimp only
  refine DiversionFrame.trans ?_ (presentTarget_diversion present_diversion _ _)
  have h := (withdraw_diversion k r.tag s).trans (updateRecord_diversion r.tag (fun _ => fallbackRecord r s) _)
  split
  · exact h.trans (present_diversion k _)
  · exact h

/-- The evaluation of one record. -/
theorem evaluateRecord_diversion (s : State) (tag : SequenceTag) : DiversionFrame s (evaluateRecord s tag) := by
  unfold evaluateRecord
  split
  · exact .refl s
  · split
    · exact .refl s
    · split
      · exact .refl s
      · exact .refl s
      · split
        · exact (updateRecord_diversion tag _ s).trans (present_diversion _ _)
        · exact takeFallback_diversion _ _ s
      · exact takeFallback_diversion _ _ s
      · exact takeFallback_diversion _ _ s
      · exact .refl s
      · exact .refl s

/-- A classification pass over the track. -/
theorem evaluateTrack_diversion (s : State) : DiversionFrame s (evaluateTrack s) :=
  .foldl _ evaluateRecord_diversion _ s

/-! ## No grant under air wait, in HALT or STANDBY, or with the e-stop asserted -/

/-- Where no grant is allowed, an examination changes nothing (R80). -/
theorem examine_of_not_allowed {s : State} (h : grantAllowed s = false) : examine s = s := by
  simp [examine, grantOne, h]

end Sys2Proof.Machine
end

