-- ==== Sys2Proof/Laws/Edges.lean ====
section
/-! SUPPORT. The taking of a filtered edge by its receiver, the level an input reads while an edge of it waits, and the
handing of the edges that still wait at a sample. -/

namespace Sys2Proof.Machine

open Sys2Proof

theorem find_reported {e : FilteredEdge} {before after : List FilteredEdge} (h : ∀ x ∈ before, x.input ≠ e.input) :
    ((before ++ e :: after).find? fun x => x.input == e.input) = some e := by
  induction before with
  | nil => simp
  | cons x l ih =>
    have hx : ¬ x.input = e.input := h x (by simp)
    rw [List.cons_append, List.find?_cons_of_neg (by simp [hx])]
    exact ih fun y hy => h y (by simp [hy])

theorem erase_reported {e : FilteredEdge} {before after : List FilteredEdge} (h : ∀ x ∈ before, x.input ≠ e.input) :
    (before ++ e :: after).erase e = before ++ after := by
  induction before with
  | nil => simp
  | cons x l ih =>
    have hx : x ≠ e := fun he => h x (by simp) (by rw [he])
    simp [hx]
    exact ih fun y hy => h y (by simp [hy])

/-- A reported edge of the direction asked for is taken, and the others stay. -/
theorem takeEdge_of_reports {e : FilteredEdge} {others : List FilteredEdge} {s : State} (h : s.reports e others) :
    takeEdge e.input e.rising s = some (e, s.withEdges others) := by
  obtain ⟨before, after, hs, hb, rfl⟩ := h
  simp [takeEdge, hs, find_reported hb, erase_reported hb, State.onSensing, State.withEdges]

/-- With no edge of the input reported, or one of the other direction the oldest, none is taken. -/
theorem takeEdge_none {input : GateInput} {rising : Bool} {s : State}
    (h : ∀ e, s.sensing.edges.find? (fun x => x.input == input) = some e → e.rising ≠ rising) :
    takeEdge input rising s = none := by
  unfold takeEdge
  cases hf : s.sensing.edges.find? (fun x => x.input == input) with
  | none => rfl
  | some e => simp [h e hf]

/-! ## Filtered states -/

/-- An input none of whose edges waits reads as its record. -/
theorem filteredState_of_none {input : GateInput} {s : State} (h : ∀ e ∈ s.sensing.edges, e.input ≠ input) :
    filteredState input s = (recordAt input s.sensing).active := by
  have hf : s.sensing.edges.find? (fun e => e.input == input) = none := by simpa using h
  simp [filteredState, hf]

/-- An input an edge of which waits reads as before its oldest edge. -/
theorem filteredState_of_reports {e : FilteredEdge} {others : List FilteredEdge} {s : State} (h : s.reports e others) :
    filteredState e.input s = !e.rising := by
  obtain ⟨before, after, hs, hb, -⟩ := h
  simp [filteredState, hs, find_reported hb]

/-- The taking of an edge leaves what every other input reads. -/
theorem filteredState_withEdges {e : FilteredEdge} {others : List FilteredEdge} {s : State} {input : GateInput}
    (h : s.reports e others) (hne : input ≠ e.input) :
    filteredState input (s.withEdges others) = filteredState input s := by
  obtain ⟨before, after, hs, -, rfl⟩ := h
  have hx : (e.input == input) = false := by simpa using fun he => hne he.symm
  simp only [filteredState, State.withEdges, hs, List.find?_append, List.find?_cons, hx]
  cases input <;> rfl

/-! ## The edges that wait at a sample -/

/-- The oldest edge is handed at a sample as by its own command. -/
theorem exec_eq_handOldest {e : FilteredEdge} {rest : List FilteredEdge} {c : Instr} {s : State}
    (hs : s.sensing.edges = e :: rest) (hc : edgeCommand e = some c) : exec c s = .next (handOldest s) := by
  obtain ⟨input, rising, position⟩ := e
  cases input <;> cases rising <;> simp only [edgeCommand, Option.some.injEq, reduceCtorEq] at hc <;> subst hc <;>
    simp [handOldest, hs, exec, execGeLeadingEdge, execGeTrailingEdge, execChuteGateRising, execCrateRemoved,
      execCratePlaced, execReadyLineRising, execReadyLineFalling]

/-- A chute gate's falling edge, which no block receives, is dropped. -/
theorem handOldest_of_no_command {e : FilteredEdge} {rest : List FilteredEdge} {s : State}
    (hs : s.sensing.edges = e :: rest) (hc : edgeCommand e = none) : handOldest s = s.withEdges rest := by
  obtain ⟨input, rising, position⟩ := e
  cases input <;> cases rising <;> simp only [edgeCommand, reduceCtorEq] at hc
  simp [handOldest, hs, State.onSensing, State.withEdges]

/-- With no edge waiting, none is handed. -/
theorem handEdges_of_none {s : State} (hs : s.sensing.edges = []) : ∀ n, handEdges n s = s
  | 0 => rfl
  | n + 1 => by
    have h : handOldest s = s := by simp [handOldest, hs]
    simp [handEdges, h, handEdges_of_none hs n]

end Sys2Proof.Machine
end

