-- ==== Sys2Proof/Laws/Numbers.lean ====
section
/-! SUPPORT. The bytes of a request as the subjects they name: a number from 1 names its outlet, channel, concession or
family, and every other byte names none. -/

namespace Sys2Proof.Machine

open Sys2Proof

@[simp] theorem outletOf_numberByte (k : OutletId) : outletOf (numberByte k).toNat = some k := by
  revert k; decide

@[simp] theorem channelOf_numberByte (c : ChannelId) : channelOf (numberByte c).toNat = some c := by
  revert c; decide

@[simp] theorem sixOf_numberByte (i : Fin 6) : sixOf (numberByte i).toNat = some i := by
  revert i; decide

theorem outletOf_of_ne {n : Byte} : (∀ k : OutletId, n ≠ numberByte k) → outletOf n.toNat = none := by
  revert n; decide

theorem channelOf_of_ne {n : Byte} : (∀ c : ChannelId, n ≠ numberByte c) → channelOf n.toNat = none := by
  revert n; decide

theorem sixOf_of_ne {n : Byte} : (∀ i : Fin 6, n ≠ numberByte i) → sixOf n.toNat = none := by
  revert n; decide

/-- A number names exactly its station. -/
theorem stationOf_eq (n : Nat) (a : StationId) : stationOf n = some a ↔ n = a.val := by
  unfold stationOf
  split
  · simp [Fin.ext_iff]
  · constructor <;> intro h
    · simp at h
    · have := a.isLt; omega

theorem classArgument_eq (n : Nat) (c : Fin 11) : classArgument n = some c ↔ n = c.val := by
  unfold classArgument
  split
  · simp [Fin.ext_iff]
  · constructor <;> intro h
    · simp at h
    · have := c.isLt; omega

theorem confidenceArgument_eq (n : Nat) (c : Confidence) : confidenceArgument n = some c ↔ n = c.val := by
  unfold confidenceArgument
  split
  · simp [Fin.ext_iff]
  · constructor <;> intro h
    · simp at h
    · have := c.isLt; omega

/-- A route argument names exactly the outlet, or none, whose number it is. -/
theorem routeOutlet_eq (n : Nat) (k : Option OutletId) : routeOutlet n = some k ↔ n = outletNumber k := by
  unfold routeOutlet outletOf outletNumber
  cases k with
  | none => split <;> simp_all
  | some k =>
    have := k.isLt
    by_cases h0 : n = 0
    · simp [h0]
    · simp only [h0, if_false]
      split
      · simp [Fin.ext_iff]; omega
      · simp; omega

end Sys2Proof.Machine
end

