-- ==== Sys2Proof/Laws/Records.lean ====
section
/-! SUPPORT. The record of a sequence tag: the track is read, changed and shortened at its first record of the tag. -/

namespace Sys2Proof.Machine

open Sys2Proof

/-- The record of a tag is the first with it. -/
theorem recordOf_append {s : State} {front back : List TrackRecord} {r : TrackRecord}
    (hs : s.track.records = front ++ r :: back) (hf : ∀ x ∈ front, x.tag ≠ r.tag) : recordOf r.tag s = some r := by
  have h : front.find? (fun x => x.tag == r.tag) = none := by simpa using hf
  simp [recordOf, hs, List.find?_append, h]

/-- A change by tag reaches the first record with it alone. -/
theorem changeFirst_append {f : TrackRecord → TrackRecord} {front back : List TrackRecord} {r : TrackRecord}
    (hf : ∀ x ∈ front, x.tag ≠ r.tag) : changeFirst r.tag f (front ++ r :: back) = front ++ f r :: back := by
  induction front with
  | nil => simp [changeFirst]
  | cons x l ih =>
    have hx : x.tag ≠ r.tag := hf x (by simp)
    simp [changeFirst, hx, ih fun y hy => hf y (by simp [hy])]

/-- A change by a tag that no record has changes nothing. -/
theorem changeFirst_of_none {tag : SequenceTag} {f : TrackRecord → TrackRecord} {l : List TrackRecord}
    (h : ∀ x ∈ l, x.tag ≠ tag) : changeFirst tag f l = l := by
  induction l with
  | nil => rfl
  | cons x l ih => simp [changeFirst, h x (by simp), ih fun y hy => h y (by simp [hy])]

/-- A change by tag keeps the number of records. -/
theorem changeFirst_length (tag : SequenceTag) (f : TrackRecord → TrackRecord) (l : List TrackRecord) :
    (changeFirst tag f l).length = l.length := by
  induction l with
  | nil => rfl
  | cons x l ih => unfold changeFirst; split <;> simp [ih]

/-- The removal by tag takes the first record with it alone. -/
theorem removeRecord_append {s : State} {front back : List TrackRecord} {r : TrackRecord}
    (hs : s.track.records = front ++ r :: back) (hf : ∀ x ∈ front, x.tag ≠ r.tag) :
    (removeRecord r.tag s).track.records = front ++ back := by
  have h : ∀ x ∈ front, ¬ (x.tag == r.tag) = true := by simpa using hf
  simp [removeRecord, State.onTrack, hs, List.eraseP_append_right _ h]

/-- With the tags of the track distinct, every bid is found by its tag. -/
theorem bidsFound_of_nodup {s : State} (h : (s.track.records.map (·.tag)).Nodup) : BidsFound s := by
  intro front back r hs _ x hx he
  rw [hs, List.map_append, List.nodup_append] at h
  exact h.2.2 x.tag (List.mem_map_of_mem hx) r.tag (by simp) he

end Sys2Proof.Machine
end

