-- ==== Sys2Proof/Laws/Requests.lean ====
section
/-! SUPPORT. The taking of a request: what a request command does by the oldest request of the receive queue, and the
response a handler places. -/

namespace Sys2Proof.Machine

open Sys2Proof

/-- The state with the oldest request taken and nothing answered yet. -/
def State.unanswered (rest : List Request) (s : State) : State := s.onLink fun l => { l with receiveQueue := rest }

theorem Request.byte_cons_zero (a : StationId) (b : Byte) (l : List Byte) :
    Request.byte { station := a, data := b :: l } 0 = b.toNat := rfl

/-- Placing the response after the taking leaves the state `taken`. -/
theorem respond_unanswered (a : StationId) (code tag : Byte) (args : List Byte) (status : Status)
    (results : List Byte) (rest : List Request) (s : State) :
    respond { station := a, data := code :: tag :: args } status results (s.unanswered rest) =
      s.taken rest (answer a code tag status (padTo 5 results)) := by
  have h : ∀ m, (results ++ List.replicate (5 + m) (0 : Byte)).take 5 = (results ++ List.replicate 5 0).take 5 := by
    intro m
    rw [List.replicate_add, ← List.append_assoc, List.take_append_of_le_length (by simp)]
  simp only [respond, placeFrame, State.unanswered, State.taken, responseFrame, answer, padTo, State.onLink,
    List.getD_cons_zero, List.getD_cons_succ, List.cons_append, List.take_succ_cons, ← h 3]

theorem padTo_nil : padTo 5 [] = noResults := rfl

theorem taking_of_queue {code : Byte} {tag : Byte} {args : List Byte} {a : StationId} {rest : List Request} {s : State}
    (h : s.link.receiveQueue = { station := a, data := code :: tag :: args } :: rest) (places length : Nat)
    (linkOnly : Bool) (handle : Request → State → State) (hp : s.link.transmitQueue.length + places ≤ 16) :
    takeRequestWith places code.toNat length linkOnly handle s =
      if args.length + 2 ≠ length then s.taken rest (answer a code tag .badLength noResults)
      else if linkOnly = true ∧ a ≠ 0 then s.taken rest (answer a code tag .notYours noResults)
      else handle { station := a, data := code :: tag :: args } (s.unanswered rest) := by
  have hp' : places ≤ 16 - s.link.transmitQueue.length := by omega
  unfold takeRequestWith oldestRequest
  rw [h]
  have hc : Request.hasCode code.toNat { station := a, data := code :: tag :: args } = true := by
    simp [Request.hasCode, Request.byte]
  simp only [hc, freePlaces, hp', Bool.true_and, decide_true, if_true]
  have hl : ({ station := a, data := code :: tag :: args } : Request).data.length = args.length + 2 := rfl
  rw [hl]
  simp only [show (s.onLink fun l => { l with receiveQueue := rest }) = s.unanswered rest from rfl]
  split
  · exact (respond_unanswered a code tag args .badLength [] rest s)
  · cases linkOnly <;> by_cases ha : a = 0 <;> simp [ha, respond_unanswered, padTo_nil]

/-- A request command whose request is the oldest, with its length right and its sender allowed, runs its handler on the
state with the request taken. -/
theorem takeRequestWith_asked {code tag : Byte} {args : List Byte} {a : StationId} {rest : List Request} {s : State}
    (h : s.asked a (code :: tag :: args) rest) {places length : Nat} {linkOnly : Bool}
    (handle : Request → State → State) (hp : s.link.transmitQueue.length + places ≤ 16)
    (hl : args.length + 2 = length) (ha : linkOnly = true → a = 0) :
    takeRequestWith places code.toNat length linkOnly handle s =
      handle { station := a, data := code :: tag :: args } (s.unanswered rest) := by
  rw [taking_of_queue h.1 places length linkOnly handle hp, if_neg (by omega), if_neg (fun hh => hh.2 (ha hh.1))]

theorem takeRequest_asked {code tag : Byte} {args : List Byte} {a : StationId} {rest : List Request} {s : State}
    (h : s.asked a (code :: tag :: args) rest) {length : Nat} {linkOnly : Bool} (handle : Request → State → State)
    (hl : args.length + 2 = length) (ha : linkOnly = true → a = 0) :
    takeRequest code.toNat length linkOnly handle s =
      handle { station := a, data := code :: tag :: args } (s.unanswered rest) :=
  takeRequestWith_asked h handle (by have := h.2; omega) hl ha

/-- With too few free places nothing is taken. -/
theorem takeRequestWith_waits {s : State} {places : Nat} (code length : Nat) (linkOnly : Bool)
    (handle : Request → State → State) (h1 : 1 ≤ places) (h : 16 < s.link.transmitQueue.length + places) :
    takeRequestWith places code length linkOnly handle s = s := by
  have h' : ¬ places ≤ 16 - s.link.transmitQueue.length := by omega
  unfold takeRequestWith oldestRequest
  cases s.link.receiveQueue <;> simp [freePlaces, h']

/-- With no request waiting nothing is taken. -/
theorem takeRequestWith_empty {s : State} (places code length : Nat) (linkOnly : Bool)
    (handle : Request → State → State) (h : s.link.receiveQueue = []) :
    takeRequestWith places code length linkOnly handle s = s := by
  simp [takeRequestWith, oldestRequest, h]

/-- With a request of another code the oldest nothing is taken. -/
theorem takeRequestWith_other {s : State} {q : Request} {rest : List Request} (places code length : Nat)
    (linkOnly : Bool) (handle : Request → State → State) (h : s.link.receiveQueue = q :: rest)
    (hc : q.hasCode code = false) : takeRequestWith places code length linkOnly handle s = s := by
  simp [takeRequestWith, oldestRequest, h, hc]

end Sys2Proof.Machine
end

