-- ==== Sys2Proof/Laws/Sensing.lean ====
section
/-! SUPPORT. No block that receives an edge touches belt sensing: the edge is taken off the list of those that wait, and
the rest of `sensing` stays. Hence a sample hands each waiting edge once, and none is left. -/

namespace Sys2Proof.Machine

open Sys2Proof

/-- A fold of operations that each leave belt sensing leaves it. -/
theorem foldl_sensing {α : Type} (f : State → α → State) (hf : ∀ s a, (f s a).sensing = s.sensing) :
    ∀ (l : List α) (s : State), (l.foldl f s).sensing = s.sensing
  | [], _ => rfl
  | a :: l, s => (foldl_sensing f hf l (f s a)).trans (hf s a)

/-! ## Shared operations -/

@[simp] theorem placeNoticeFrame_sensing (f : CanFrame) (s : State) : (placeNoticeFrame f s).sensing = s.sensing := by
  unfold placeNoticeFrame; split <;> rfl

@[simp] theorem raiseNotice_sensing (n : Notice) (s : State) : (raiseNotice n s).sensing = s.sensing :=
  foldl_sensing _ (fun s a => by unfold noticeTo; split <;> simp) _ s

@[simp] theorem driveOutputs_sensing (s : State) : (driveOutputs s).sensing = s.sensing := rfl

@[simp] theorem moveLine_sensing (new : LineState) (cause : LineCause) (s : State) :
    (moveLine new cause s).sensing = s.sensing := by simp [moveLine]

@[simp] theorem present_sensing (k : OutletId) (s : State) : (present k s).sensing = s.sensing :=
  (present_diversion k s).sensing

@[simp] theorem presentQuietly_sensing (k : OutletId) (s : State) : (presentQuietly k s).sensing = s.sensing :=
  (presentQuietly_diversion k s).sensing

@[simp] theorem reportLoss_sensing (k : OutletId) (before : Bool) (s : State) :
    (reportLoss present k before s).sensing = s.sensing :=
  (reportLoss_diversion present_diversion k before s).sensing

@[simp] theorem evaluateRecord_sensing (s : State) (tag : SequenceTag) : (evaluateRecord s tag).sensing = s.sensing :=
  (evaluateRecord_diversion s tag).sensing

@[simp] theorem cutPulses_sensing (s : State) : (cutPulses s).sensing = s.sensing :=
  foldl_sensing _ (fun s k => by unfold cutPulse; split <;> simp [awaitConfirm, deEnergise]) _ s

@[simp] theorem settleLine_sensing (s : State) : (settleLine s).sensing = s.sensing := by
  unfold settleLine testDrain
  split <;> simp

/-! ## Admission -/

@[simp] theorem returnItem_sensing (owner : StationId) (wareClass : WareClass) (s : State) :
    (returnItem owner wareClass s).sensing = s.sensing := by
  unfold returnItem
  split
  · unfold changeAccount noticeBalance writeAccount; dsimp only; split <;> simp
  · rfl

@[simp] theorem handOnOverflow_sensing (i : Nat) (count : DeviceCount) (s : State) :
    (handOnOverflow i count s).sensing = s.sensing := by
  unfold handOnOverflow overflowOccurrence
  split
  · split <;> simp
  · rfl

@[simp] theorem letGo_sensing (e : PendingEntry) (rest : List PendingEntry) (s : State) :
    (letGo e rest s).sensing = s.sensing := by
  unfold letGo admitEntry admitItem removeEntry
  dsimp only
  split
  · split <;> split <;> simp
  · simp

theorem examineHeads_sensing : ∀ (n : Nat) (s : State), (examineHeads n s).sensing = s.sensing
  | 0, _ => rfl
  | n + 1, s => by
    unfold examineHeads
    split
    · rfl
    · split
      · rw [examineHeads_sensing n, letGo_sensing]
      · rfl

theorem leadingEdge_sensing (position : Position) (s : State) : (leadingEdge position s).sensing = s.sensing := by
  unfold leadingEdge
  split <;> simp [openEntry]

theorem trailingEdge_sensing (position : Position) (s : State) : (trailingEdge position s).sensing = s.sensing := by
  unfold trailingEdge examineHead
  dsimp only
  split
  · split <;> simp [examineHeads_sensing]
  · rfl

/-! ## Outlets -/

@[simp] theorem enterFull_sensing (k : OutletId) (before : Bool) (s : State) :
    (enterFull k before s).sensing = s.sensing := by simp [enterFull]

@[simp] theorem enterJam_sensing (k : OutletId) (before : Bool) (s : State) :
    (enterJam k before s).sensing = s.sensing := by simp [enterJam]

@[simp] theorem takePlace_sensing (k : OutletId) (before : Bool) (s : State) :
    (takePlace k before s).sensing = s.sensing := by
  unfold takePlace; dsimp only; split <;> simp

@[simp] theorem confirmationEvent_sensing (k : OutletId) (before : Bool) (s : State) :
    (confirmationEvent k before s).sensing = s.sensing := by
  unfold confirmationEvent strayEvent crateEffect removeSorted
  dsimp only
  split
  · rfl
  · split
    · split <;> simp
    · split
      · split
        · simp
        · split <;> simp
      · simp

theorem removeCrate_sensing (k : OutletId) (s : State) : (removeCrate k s).sensing = s.sensing := by
  unfold removeCrate; dsimp only; split <;> simp

theorem placeCrate_sensing (k : OutletId) (s : State) : (placeCrate k s).sensing = s.sensing := by
  unfold placeCrate freshCrate openOrJam
  dsimp only
  split
  · split
    · split <;> simp
    · simp
  · rfl

/-! ## The handing of the edges that wait -/

/-- The oldest edge is taken off, and the rest of belt sensing stays. -/
theorem handOldest_sensing (s : State) :
    (handOldest s).sensing = { s.sensing with edges := s.sensing.edges.tail } := by
  obtain h | ⟨e, rest, h⟩ : s.sensing.edges = [] ∨ ∃ e rest, s.sensing.edges = e :: rest := by
    cases s.sensing.edges <;> simp
  · have : handOldest s = s := by simp [handOldest, h]
    rw [this, h, List.tail_nil, ← h]
  · have ht := takeEdge_of_reports (s := s) (e := e) (others := rest) ⟨[], rest, h, by simp, rfl⟩
    obtain ⟨input, rising, position⟩ := e
    rw [h, List.tail_cons]
    unfold handOldest
    rw [h]
    cases input <;> cases rising <;>
      simp only [takeLeadingEdge, takeTrailingEdge, takeChuteRising, takeReadyRising, takeReadyFalling,
        takeCrateFalling, takeCrateRising, ht, leadingEdge_sensing, trailingEdge_sensing, removeCrate_sensing,
        placeCrate_sensing, State.withEdges, State.onSensing_sensing]
    · split <;> simp
    · split <;> simp [fallReady]

/-- As many handings as there are edges leave none waiting and the rest of belt sensing as it is. -/
theorem handEdges_sensing : ∀ (n : Nat) (s : State),
    (handEdges n s).sensing = { s.sensing with edges := s.sensing.edges.drop n }
  | 0, _ => rfl
  | n + 1, s => by
    rw [handEdges, handEdges_sensing n, handOldest_sensing]
    simp

end Sys2Proof.Machine
end

