-- ==== Sys2Proof/WellFormed.lean ====
section
/-! DEFINITION. When a command is one that can reach the part. Outlets, channels and stations are in
range by their types; what is left to check is the data length of an arriving frame. -/

namespace Sys2Proof

/-- A CAN frame carries at most 8 data bytes (section 11.1), and a remote frame carries none. -/
def CanFrame.wellFormed (f : CanFrame) (remote : Bool) : Bool :=
  decide (f.data.length ≤ 8) && (!remote || f.data.isEmpty)

/-- The well-formedness of a command. -/
def Instr.wellFormed : Instr → Bool
  | .frameArrival f remote => f.wellFormed remote
  | .powerOn _ _ | .encoderEvent _ | .speedIntervalClose | .geLeadingEdge | .geTrailingEdge
  | .chuteGateRising _ | .crateRemoved _ | .cratePlaced _ | .readyLineRising _ | .readyLineFalling _
  | .receiveByte _ _ | .frameTimerExpiry | .captureMessageBegin | .captureMessageSent | .pulseEnd _
  | .confirmTimeout _ | .estopAssertion | .estopRelease | .settleTimeExpiry _ | .channelSample _ _
  | .frameTransmitted | .unassignedRequestCode | .start | .drain | .stop | .resume | .initializeLine
  | .setGeometry | .setSpeedCodes | .setAir | .setPlaceTiming | .setOutletPlace | .mask | .unmask
  | .setCrate | .reloadCrate | .clearJam | .setRoute | .setChannel | .enableChannel | .channelOff
  | .issue | .adjust | .setValue | .setBalanceMode | .setThreshold | .clearFlags | .readLine
  | .readOutlet | .readConfirmQueue | .readTrackEntry | .readPending | .readRoute | .readChannel
  | .readBalance | .readCounts | .setNoticeMask | .pollNotices | .inputSample _ _ _ _
  | .frameTransmissionBegin => true

end Sys2Proof
end

