-- ==== Sys2Proof/Tests/Slice0.lean ====
section
/-! SUPPORT. Small tests whose expected results are the manual's own tables, worked examples and rules, the smoke test
of well-formedness, and for each obligation with hypotheses a concrete state and operands that meet them. -/

namespace Sys2Proof.Tests

open Sys2Proof Sys2Proof.Machine

/-! ## Helpers -/

/-- The state with one request of `a` waiting. -/
def ask (a : StationId) (data : List Byte) (s : State) : State :=
  s.onLink fun l => { l with receiveQueue := [{ station := a, data := data }] }

/-- The state with one filtered edge reported. -/
def edge (input : GateInput) (rising : Bool) (position : Position) (s : State) : State :=
  s.onSensing fun b => { b with edges := [{ input := input, rising := rising, position := position }] }

/-- What a command leaves. -/
def after (c : Instr) (s : State) : State :=
  match exec c s with
  | .next t => t
  | .fault _ | .refused _ => s

/-- The data of the last frame placed. -/
def reply (s : State) : List Byte := (s.link.transmitQueue.getLast?.map (·.data)).getD []

/-- The line in a state, E set to 2,200. -/
def inState (l : LineState) : State :=
  (State.reset.onLine fun x => { x with state := l }).onGeometry fun g => { g with beltEnd := some 2200 }

/-- The line in RUN. -/
def run : State := inState .run

/-- An OPEN and unmasked CRATE outlet of concession 2. -/
def openOutlet : Outlet := { Outlet.powerOn with state := .opened, masked := false, owner := 2 }

/-- The line in RUN with outlet 7 such an outlet at 1,200 counts, changed by `f`. -/
def outlet7 (f : Outlet → Outlet) : State :=
  ((run.onOutlet 6 fun _ => f openOutlet).onTiming 6 fun t => { t with offset := some 1200 }).onSensing
    fun b => { b with crateSensors := Vector.replicate 12 { active := true, run := 0 } }

/-- A confirm-queue entry. -/
def entry (tag : SequenceTag) (phase : ConfirmPhase) : ConfirmEntry :=
  { tag := tag, owner := 2, wareClass := .cup, phase := phase }

/-- A track record aimed at outlet 7. -/
def record (tag : SequenceTag) (state : TrackState) : TrackRecord :=
  { tag := tag, footprint := 90, centre := 0, wareClass := .cup, owner := 2, confidence := 9, primary := some 6,
    alternate := none, target := some 6, state := state, fallback := false }

/-- Concession 2's CUPS accumulator as in 9.7. -/
def cups (mode : BalanceMode) : State :=
  State.reset.onBalance 1 fun b =>
    { mode := mode
      accounts := b.accounts.set 2 { value := 32000, excursion := 0, overFlag := false, aboveFlag := true }
      thresholds := b.thresholds.set 2 30000 }

/-! ## Well-formedness -/

theorem test_wellFormed_accepts_8_bytes :
    (Instr.frameArrival { identifier := 0x640, data := List.replicate 8 0 } false).wellFormed = true := by decide

theorem test_wellFormed_refuses_9_bytes :
    (Instr.frameArrival { identifier := 0x640, data := List.replicate 9 0 } false).wellFormed = false := by decide

theorem test_wellFormed_refuses_remote_data :
    (Instr.frameArrival { identifier := 0x640, data := [1] } true).wellFormed = false := by decide

/-! ## Arithmetic: the tables of 1.3, 4.2 and 4.4, and the window of 4.3 -/

/-- The speeds of 1.3's ring sums 64, 58 and 45, and the saturation at 1,023. -/
theorem test_speed_table : [64, 58, 45, 16, 262].map speedOf = [250, 226, 175, 62, 1023] := by decide

/-- The leads of 4.2's table, latencies 30, 42 and 250 at V 3, 125, 250 and 1,023. -/
theorem test_lead_table : [30, 42, 250].map (fun l => [3, 125, 250, 1023].map (leadOf l)) =
    [[0, 4, 8, 31], [0, 5, 11, 43], [1, 31, 63, 256]] := by decide

/-- The pulses of 4.4's table. -/
theorem test_pulse_table :
    [pulseOf 45 250 0 20 250, pulseOf 20 250 50 20 250, pulseOf 2 1023 0 20 250, pulseOf 10 500 10 40 250,
      pulseOf 200 250 0 20 250, pulseOf 45 11 0 20 250, pulseOf 45 7 50 20 250].map (fun p => (p.duration, p.clamp)) =
    [(180, .none_), (130, .none_), (20, .raised), (40, .raised), (250, .cut), (250, .cut), (250, .lowSpeed)] := by
  decide

/-- 4.3's window of T = 11,245, h = 45, λ = 11: it opens at 11,189, and is passed from 11,235. -/
theorem test_window_positions : [11188, 11189, 11234, 11235].map (fun b => windowOf (b - 11245) 45 11) =
    [.notYet, .inWindow, .inWindow, .passed] := by decide

/-- The order with the mark at 1 is 12 down to 1 (R81). -/
theorem test_fixed_order : orderFrom 0 = [11, 10, 9, 8, 7, 6, 5, 4, 3, 2, 1, 0] := by decide

/-! ## Reset and power-on -/

theorem test_reset_notice : State.reset.link.stations[0].notices = [.line none .standby .powerOn] := by decide

theorem test_powerOn_reads_estop :
    (after (.powerOn { phase1 := true, phase2 := false } true) run).line.estop = true := by decide

/-! ## Belt sensing -/

/-- PHASE-1 rises while PHASE-2 is low: a forward step, repaying backlash (R1, R2). -/
theorem test_encoder_forward_repays :
    (after (.encoderEvent { phase1 := true, phase2 := false })
      (State.reset.onSensing fun b => { b with debt := 3 })).sensing.debt = 2 := by decide

/-- Both lines change: ENCODER SKIP (R1). -/
theorem test_encoder_skip :
    (after (.encoderEvent { phase1 := true, phase2 := true }) State.reset).sensing.encoderSkip = 1 := by decide

theorem test_interval_close :
    (after .speedIntervalClose ((State.reset.onNow fun _ => 32).onSensing fun b =>
      { b with intervalCount := 8, ring := Vector.replicate 8 8 })).sensing.speed = 250 := by decide

/-- 1.4's leading edge: the third active sample reports the position of the first. -/
theorem test_ge_edge_position :
    (after (.inputSample true (Vector.replicate 12 false) (Vector.replicate 12 false) (Vector.replicate 12 false))
      (run.onSensing fun b => { b with ge := { active := false, run := 2 }, geRunStart := 50000, position := 50001 })
      ).sensing.edges = [{ input := .ge, rising := true, position := 50000 }] := by decide

/-- A chute gate's fall is handed to no block (R15). -/
theorem test_chute_fall_unreported :
    (after (.inputSample false (Vector.replicate 12 false) (Vector.replicate 12 false) (Vector.replicate 12 false))
      (run.onSensing fun b => { b with chuteGates := Vector.replicate 12 { active := true, run := 2 } })
      ).sensing.edges = [] := by decide

/-! ## Identification and admission -/

theorem test_leading_edge_opens :
    (after .geLeadingEdge (edge .ge true 50000 run)).admission.entries =
      [{ capture := 1, leading := 50000, trailing := none, record := none }] := by decide

theorem test_leading_edge_untracked_in_drain :
    (after .geLeadingEdge (edge .ge true 50000 (inState .drain))).admission.untracked = 1 := by decide

/-- The trailing edge goes to the newest entry that lacks one (R25). -/
theorem test_trailing_edge :
    (after .geTrailingEdge (edge .ge false 90 (run.onAdmission fun a =>
      { a with entries := [{ capture := 1, leading := 50, trailing := none, record := none }] }))).admission.entries =
      [{ capture := 1, leading := 50, trailing := some 90, record := none }] := by decide

/-- A byte out of a frame that is no mark is skipped; the mark begins a record (R18). -/
theorem test_receive_mark :
    (after (.receiveByte 0xC3 false) run).admission.framing = .collecting [0xC3] := by decide

/-- The sixth byte's check is the sum of the four before it; a wrong one counts BAD CHECK (R20). -/
theorem test_receive_bad_check :
    (after (.receiveByte 1 false) (run.onAdmission fun a =>
      { a with framing := .collecting [0xC3, 7, 4, 3, 12] })).admission.badCheck = 1 := by decide

theorem test_frame_timer :
    (after .frameTimerExpiry ((run.onNow fun _ => 6).onAdmission fun a =>
      { a with framing := .collecting [0xC3], frameTimer := some 6 })).admission.badFrame = 1 := by decide

theorem test_capture_message :
    (after .captureMessageBegin (run.onAdmission fun a => { a with captureQueue := [9] })).admission.sending =
      some (0x3C, 0x09) := by decide

theorem test_capture_message_sent :
    (after .captureMessageSent (run.onAdmission fun a => { a with sending := some (0x3C, 0x09) })).admission.sending =
      none := by decide

/-! ## Pulses and the outlets -/

/-- 6.8: the pulse end at 5,120 with W = 300 leaves the entry AWAITING 5,420. -/
theorem test_pulse_end_deadline :
    (after (.pulseEnd 6) (((outlet7 fun o => { o with queue := [entry 900 .pulsing] }).onNow fun _ => 5120).onAir
      fun a => { a with pulses := a.pulses.set 6 (some { tag := 900, pulseEnd := 5120 }) })).outlets[6].queue =
      [entry 900 (.awaiting 5420)] := by decide

theorem test_estop_halts : (after .estopAssertion run).line.state = .halt .run := by decide

theorem test_estop_release :
    (after .estopRelease (State.reset.onLine fun l => { l with estop := true })).line.estop = false := by decide

/-- 6.8: the confirmation that takes the last place makes the outlet FULL. -/
theorem test_last_place_fills :
    (after (.chuteGateRising 6) (edge (.chuteGate 6) true 0
      (outlet7 fun o => { o with currentCount := 1, queue := [entry 901 (.awaiting 9)] }))).outlets[6].state =
      .full := by decide

/-- 6.8: a confirmation in FULL is an OVERFILL. -/
theorem test_full_overfills :
    (after (.chuteGateRising 6) (edge (.chuteGate 6) true 0
      (outlet7 fun o => { o with state := .full, currentCount := 0, queue := [entry 902 (.awaiting 9)] }))
      ).outlets[6].overfill = 1 := by decide

/-- 6.9: the third timeout in a row jams an OPEN outlet. -/
theorem test_third_timeout_jams :
    (after (.confirmTimeout 6) (outlet7 fun o => { o with consecutive := 2, queue := [entry 1012 (.awaiting 0)] })
      ).outlets[6].state = .jammed := by decide

theorem test_timeout_counts :
    (after (.confirmTimeout 6) (outlet7 fun o => { o with queue := [entry 1010 (.awaiting 0)] })
      ).track.unconfirmed = 1 := by decide

theorem test_crate_removed :
    (after (.crateRemoved 6) (edge (.crateSensor 6) false 0 (outlet7 id))).outlets[6].state = .swap := by decide

/-- 6.9: a jam is owed, so a crate placed under autoreload jams the outlet. -/
theorem test_crate_placed_owed_jam :
    (after (.cratePlaced 6) (edge (.crateSensor 6) true 0 (outlet7 fun o => { o with state := .swap, consecutive := 3 }))
      ).outlets[6].state = .jammed := by decide

/-- 6.10: the ready line's fall confirms at a HANDOFF outlet. -/
theorem test_ready_falls :
    (after (.readyLineFalling 6) (edge (.readyLine 6) false 0
      (outlet7 fun o => { o with mode := .handoff, queue := [entry 1500 (.awaiting 9)] }))).outlets[6].sorted = 1 := by
  decide

theorem test_ready_rises :
    (after (.readyLineRising 6) (edge (.readyLine 6) true 0 (outlet7 fun o => { o with mode := .handoff }))
      ).outlets[6].stray = 0 := by decide

/-! ## Level supervision: 8.7 -/

/-- FP7 in a state of the example. -/
def fp7 (now : Nat) (f : Channel → Channel) : State := (((outlet7 id).onNow fun _ => now).onChannel 6 f)

theorem test_settle_expiry :
    (after (.settleTimeExpiry 6) (fp7 20064 fun ch => { ch with state := .settling, settleEnd := some 20064 })
      ).channels[6].nextSample = some 20072 := by decide

/-- The third absent sample at 20,088: WATCHING, not detected. -/
theorem test_first_verdict :
    (after (.channelSample 6 false) (fp7 20088 fun ch =>
      { ch with state := .samplingFirst, firstRun := some (false, 2), nextSample := some 20088 })
      ).channels[6].state = .watching := by decide

/-- The third showing sample at 30,040: outlet 7 is FULL. -/
theorem test_detection_fills :
    (after (.channelSample 6 true) (fp7 30040 fun ch =>
      { ch with state := .watching, ready := true, opposing := 2, nextSample := some 30040 })).outlets[6].state =
      .full := by decide

/-! ## The service link -/

theorem test_frame_arrival :
    (after (.frameArrival { identifier := 0x642, data := [0x3F, 7] } false) State.reset).link.receiveQueue =
      [{ station := 2, data := [0x3F, 7] }] := by decide

theorem test_remote_frame_ignored :
    (after (.frameArrival { identifier := 0x642, data := [] } true) State.reset).link.receiveQueue = [] := by decide

theorem test_transmission_begins : (after .frameTransmissionBegin State.reset).link.transmitting = true := by decide

theorem test_frame_transmitted :
    (after .frameTransmitted (State.reset.onLink fun l => { l with transmitting := true })).link.transmitQueue =
      [] := by decide

theorem test_unknown_code :
    reply (after .unassignedRequestCode (ask 3 [0x55, 9] State.reset)) = [0x55, 9, 6, 0, 0, 0, 0, 0] := by decide

theorem test_empty_request :
    reply (after .unassignedRequestCode (ask 3 [] State.reset)) = [0, 0, 5, 0, 0, 0, 0, 0] := by decide

/-- A request marked "0 (link)" from another station is NOT YOURS (R172). -/
theorem test_start_not_yours : reply (after .start (ask 1 [0x01, 9] (inState .standby))) = [1, 9, 1, 0, 0, 0, 0, 0] := by
  decide

theorem test_start : (after .start (ask 0 [0x01, 9] (inState .standby))).line.state = .run := by decide

/-- A DRAIN taken with the belt empty moves on to STANDBY (R160). -/
theorem test_drain_empty : (after .drain (ask 0 [0x02, 9] run)).line.state = .standby := by decide

theorem test_stop_abandons :
    (after .stop (ask 0 [0x03, 9] (outlet7 fun o => { o with queue := [entry 5 .pulsing] }))).track.abandoned = 1 := by
  decide

theorem test_resume_refused_with_debt :
    reply (after .resume (ask 0 [0x04, 9] ((inState (.halt .run)).onSensing fun b => { b with debt := 1 }))) =
      [4, 9, 4, 0, 0, 0, 0, 0] := by decide

theorem test_initialize_masks :
    (after .initializeLine (ask 0 [0x05, 9] (outlet7 id))).outlets[6].masked = true := by decide

/-- 4.9: E at 1,250 lies less than 100 counts beyond the offset 1,200. -/
theorem test_geometry_refused :
    reply (after .setGeometry (ask 0 [0x06, 9, 1, 44, 4, 226, 40]
      ((outlet7 id).onLine fun l => { l with state := .standby }))) = [6, 9, 2, 0, 0, 0, 0, 0] := by decide

theorem test_geometry_set :
    (after .setGeometry (ask 0 [0x06, 9, 1, 144, 8, 152, 40] State.reset)).geometry =
      { identityOffset := 400, beltEnd := some 2200 } := by decide

theorem test_speed_codes :
    (after .setSpeedCodes (ask 0 [0x07, 9, 120, 40] run)).line.speedRef = 120 := by decide

/-- A change of scheme sets the mark to outlet 1 (R82). -/
theorem test_set_air_resets_mark :
    (after .setAir (ask 0 [0x08, 9, 2, 1] (run.onAir fun a => { a with rotationMark := 5 }))).air.rotationMark = 0 := by
  decide

theorem test_place_timing :
    (after .setPlaceTiming (ask 0 [0x09, 9, 4, 40, 50, 20, 0, 250] State.reset)).link.stage =
      some { outlet := 3, latency := 40, extension := 50, minPulse := 20, maxPulse := 250 } := by decide

/-- The stage of 3.x's outlet 4. -/
def staged : State :=
  State.reset.onLink fun l =>
    { l with stage := some { outlet := 3, latency := 40, extension := 50, minPulse := 20, maxPulse := 250 } }

/-- The first placement of a CRATE outlet with no crate below it leaves it in SWAP (R114). -/
theorem test_placement :
    (after .setOutletPlace (ask 0 [0x0A, 9, 4, 3, 1, 44, 4, 26] staged)).outlets[3].state = .swap := by decide

/-- 4.9: an offset below 660 is BAD VALUE. -/
theorem test_placement_refused :
    reply (after .setOutletPlace (ask 0 [0x0A, 9, 4, 3, 1, 44, 2, 138] staged)) = [0x0A, 9, 2, 0, 0, 0, 0, 0] := by
  decide

theorem test_mask : (after .mask (ask 2 [0x10, 9, 7] (outlet7 id))).outlets[6].masked = true := by decide

theorem test_unmask :
    (after .unmask (ask 2 [0x11, 9, 7] (outlet7 fun o => { o with masked := true }))).outlets[6].masked = false := by
  decide

/-- A concession may not send for another's outlet (R112). -/
theorem test_mask_not_yours : reply (after .mask (ask 3 [0x10, 9, 7] (outlet7 id))) = [0x10, 9, 1, 0, 0, 0, 0, 0] := by
  decide

theorem test_set_crate_clamps :
    (after .setCrate (ask 2 [0x12, 9, 7, 12, 0] (outlet7 id))).outlets[6].currentCount = 12 := by decide

theorem test_reload :
    (after .reloadCrate (ask 2 [0x13, 9, 7] (outlet7 fun o => { o with state := .full, currentCount := 0 }))
      ).outlets[6].currentCount = 60 := by decide

/-- 6.9: CLEAR JAM with a crate and places left opens the outlet. -/
theorem test_clear_jam :
    (after .clearJam (ask 0 [0x14, 9, 7] (outlet7 fun o => { o with state := .jammed, consecutive := 3 }))
      ).outlets[6].state = .opened := by decide

/-- A row's first write answers revision 1 (R122). -/
theorem test_set_route :
    reply (after .setRoute (ask 2 [0x18, 9, 2, 4, 7, 0, 6] (outlet7 id))) = [0x18, 9, 0, 0, 1, 0, 0, 0] := by decide

/-- An outlet of concession 2 is foreign to row 3 (R120). -/
theorem test_set_route_foreign :
    reply (after .setRoute (ask 3 [0x18, 9, 3, 4, 7, 0, 6] (outlet7 id))) = [0x18, 9, 1, 0, 0, 0, 0, 0] := by decide

theorem test_set_channel :
    (after .setChannel (ask 2 [0x20, 9, 7, 2, 128, 112, 16, 2] (outlet7 id))).channels[6].mode = .checkAlert := by decide

/-- 8.7: ENABLE at 20,000 settles until 20,064. -/
theorem test_enable_channel :
    (after .enableChannel (ask 2 [0x21, 9, 7] (fp7 20000 id))).channels[6].settleEnd = some 20064 := by decide

/-- 8.8: CHANNEL OFF of a detected AIR ends air wait. -/
theorem test_channel_off_air :
    (after .channelOff (ask 0 [0x22, 9, 13] ((run.onChannel 12 fun ch => { ch with state := .watching, detected := true }
      ).onAir fun a => { a with airWait := true }))).air.airWait = false := by decide

/-! ## Balances: 9.7 and 9.8 -/

theorem test_issue_saturates :
    (after .issue (ask 2 [0x28, 9, 2, 3, 3, 232] (cups .saturate))).balances[1].accounts[2] =
      { value := 32767, excursion := 0, overFlag := true, aboveFlag := true } := by decide

theorem test_issue_wraps :
    (after .issue (ask 2 [0x28, 9, 2, 3, 3, 232] (cups .wrap))).balances[1].accounts[2] =
      { value := -32536, excursion := 1, overFlag := true, aboveFlag := false } := by decide

/-- ADJUST −10 (9.9). -/
theorem test_adjust :
    (after .adjust (ask 2 [0x29, 9, 2, 3, 255, 246] (cups .wrap))).balances[1].accounts[2].value = 31990 := by decide

theorem test_set_value_keeps_over :
    (after .setValue (ask 0 [0x2A, 9, 2, 3, 0, 240] (cups .wrap))).balances[1].accounts[2] =
      { value := 240, excursion := 0, overFlag := false, aboveFlag := false } := by decide

theorem test_set_balance_mode :
    (after .setBalanceMode (ask 2 [0x2B, 9, 2, 1] (cups .saturate))).balances[1].mode = .wrap := by decide

theorem test_set_threshold_clears_above :
    (after .setThreshold (ask 2 [0x2C, 9, 2, 3, 127, 255] (cups .wrap))).balances[1].accounts[2].aboveFlag = false := by
  decide

theorem test_clear_flags_answer :
    reply (after .clearFlags (ask 2 [0x2D, 9, 2, 3] (cups .wrap))) = [0x2D, 9, 0, 125, 0, 0, 2, 0] := by decide

/-! ## Reads and polls -/

/-- E after power-on is absent (R73, R175). -/
theorem test_read_line_absent :
    reply (after .readLine (ask 5 [0x30, 9, 18] State.reset)) = [0x30, 9, 0, 0, 0, 0, 0, 0] := by decide

theorem test_read_outlet_window :
    reply (after .readOutlet (ask 5 [0x31, 9, 12, 5] State.reset)) = [0x31, 9, 0, 0, 0, 1, 44, 1] := by decide

theorem test_read_confirm_queue :
    reply (after .readConfirmQueue (ask 5 [0x32, 9, 7, 0, 3] (outlet7 fun o => { o with queue := [entry 900 (.awaiting 300)] }))) =
      [0x32, 9, 0, 3, 132, 0, 1, 44] := by decide

theorem test_read_track_entry_empty :
    reply (after .readTrackEntry (ask 5 [0x33, 9, 47, 0] State.reset)) = [0x33, 9, 0, 255, 255, 255, 255, 255] := by
  decide

theorem test_read_pending_count :
    reply (after .readPending (ask 5 [0x34, 9, 3, 5] State.reset)) = [0x34, 9, 0, 255, 0, 0, 0, 1] := by decide

theorem test_read_route :
    reply (after .readRoute (ask 5 [0x35, 9, 0, 10] State.reset)) = [0x35, 9, 0, 0, 0, 6, 0, 0] := by decide

theorem test_read_channel_air_trip :
    reply (after .readChannel (ask 5 [0x36, 9, 13, 2] State.reset)) = [0x36, 9, 0, 0, 0, 0, 96, 1] := by decide

theorem test_read_balance :
    reply (after .readBalance (ask 5 [0x37, 9, 2, 3, 1] (cups .wrap))) = [0x37, 9, 0, 117, 48, 1, 0, 0] := by decide

theorem test_read_counts_refused :
    reply (after .readCounts (ask 5 [0x38, 9, 20] State.reset)) = [0x38, 9, 2, 0, 0, 0, 0, 0] := by decide

theorem test_notice_mask :
    reply (after .setNoticeMask (ask 5 [0x3E, 9, 0x21] State.reset)) = [0x3E, 9, 0, 0x21, 0, 0, 0, 0] := by decide

/-- A poll of station 0 after reset: its response and the LINE notice's frame behind it. -/
theorem test_poll :
    (after .pollNotices (ask 0 [0x3F, 9] State.reset)).link.transmitQueue.map (·.data) =
      [[1, 0, 255, 0, 0, 0, 0, 0], [0x3F, 9, 0, 1, 0, 0, 0, 0], [1, 0, 255, 0, 0, 0, 0, 0]] := by decide

/-! ## Witnesses: states and operands that meet the hypotheses of the obligations -/

theorem asked_ask (a : StationId) (data : List Byte) (s : State) (h : s.link.transmitQueue.length < 16) :
    (ask a data s).asked a data [] := ⟨rfl, h⟩

theorem reports_edge (input : GateInput) (rising : Bool) (position : Position) (s : State) :
    (edge input rising position s).reports { input := input, rising := rising, position := position } [] :=
  ⟨[], [], rfl, by simp, rfl⟩

/-- A belt in RUN: outlet 7 fires at item 5, item 6 waits, capture 1 is pending, a route leads to outlet 7. -/
def belt : State :=
  ((((((outlet7 fun o => { o with queue := [entry 5 .pulsing] }).onAir fun a =>
    { a with pulses := a.pulses.set 6 (some { tag := 5, pulseEnd := 0 }) }).onTrack fun t =>
    { t with records := [record 6 .waiting], sequence := 6, admitted := 2 }).onAdmission fun a =>
    { a with
      entries := [{ capture := 1, leading := 0, trailing := none, record := none }]
      captureCounter := 1
      captureQueue := [1]
      identReady := true }).onLine fun l => { l with governor := .run, speedRef := 96 }).onRoutes fun rows =>
    rows.set 2 { rows[2] with entries := rows[2].entries.set 4 { primary := some 6, alternate := none, minConfidence := 6 } })

theorem witness_ItemsConserved : ItemsConserved belt ∧ OutletCountsAgree belt := by
  unfold ItemsConserved OutletCountsAgree; decide

theorem witness_DivertersSafe : DivertersSafe belt := by unfold DivertersSafe; decide

theorem witness_OutputsDriven : OutputsDriven belt := by
  unfold OutputsDriven StoppedCondition SlowCondition; decide

theorem witness_StandbyHoldsNothing : StandbyHoldsNothing belt ∧ StandbyHoldsNothing State.reset := by
  unfold StandbyHoldsNothing; decide

theorem witness_BalancesSound : BalancesSound (cups .wrap) := by unfold BalancesSound; decide

theorem witness_OutletsSound : OutletsSound belt := by unfold OutletsSound; decide

theorem belt_offsets : ∀ k : OutletId, belt.timing[k].offset = if k = 6 then some 1200 else none := by decide

theorem witness_GeometrySound : GeometrySound belt := by
  refine ⟨by decide, ?_, ?_, by decide, ?_, by decide, by decide⟩
  · intro k d hd
    rw [belt_offsets] at hd
    have he : belt.geometry.beltEnd = some 2200 := rfl
    split at hd <;> simp_all
    omega
  · intro j k dj dk hjk hj hk
    rw [belt_offsets] at hj hk
    split at hj <;> split at hk <;> simp_all
  · intro e he
    have : belt.geometry.beltEnd = some 2200 := rfl
    simp_all
    omega

theorem belt_routes : ∀ (row : StationId) (c : Fin 11), belt.routes[row].entries[c].alternate = none ∧
    (belt.routes[row].entries[c].primary = if row = 2 ∧ c = 4 then some 6 else none) := by decide

theorem witness_RoutesSound : RoutesSound belt := by
  intro row c
  constructor
  · intro k hk
    rw [(belt_routes row c).1, (belt_routes row c).2] at hk
    by_cases h : row = 2 ∧ c = 4
    · obtain ⟨rfl, rfl⟩ := h
      simp at hk
      subst hk
      exact ⟨⟨1200, by decide⟩, by decide⟩
    · simp [h] at hk
  · intro a ha
    rw [(belt_routes row c).1] at ha
    cases ha

theorem witness_CapturesSound : CapturesSound belt := by
  refine ⟨by decide, ?_, by decide⟩
  intro i h
  have : i = 0 := by have : i < 1 := h; omega
  subst this
  rfl

theorem witness_CapacitiesKept : CapacitiesKept belt := by
  unfold CapacitiesKept; decide

theorem witness_QuantitiesInRange : QuantitiesInRange belt := by unfold QuantitiesInRange; decide

theorem witness_RequestsSound : RequestsSound belt := ⟨bidsFound_of_nodup (by decide), by decide⟩

theorem witness_BidsSound : BidsSound belt := ⟨witness_RequestsSound, by decide, by decide⟩

theorem belt_channels : ∀ c : ChannelId, belt.channels[c].state = .off ∧ belt.channels[c].ready = false ∧
    belt.channels[c].detected = false ∧ belt.channels[c].settleEnd = none ∧ belt.channels[c].nextSample = none ∧
    belt.channels[c].firstRun = none ∧ belt.channels[c].opposing = 0 := by decide

theorem witness_SupervisionSound : SupervisionSound belt := by
  refine ⟨?_, by decide, by decide, by decide⟩
  intro c
  obtain ⟨h1, h2, h3, h4, h5, h6, h7⟩ := belt_channels c
  rw [h1, h2, h3, h4, h5, h6, h7]
  simp

/-- A step from a state that meets the invariants, for every statement that each step keeps one. -/
theorem witness_step : ∃ t, step { belt with pending := [.pulseEnd 6] } = .next t := ⟨_, rfl⟩

theorem witness_PositionMovesByAdvancesAlone :
    (∃ t, exec .estopRelease belt = .next t) ∧ ∀ p e, Instr.estopRelease ≠ .powerOn p e := ⟨⟨_, rfl⟩, by simp⟩

theorem witness_HaltIsLeftByRequestsAlone : ∃ t, exec .stop (ask 0 [0x03, 9] (inState (.halt .run))) = .next t ∧
    (ask 0 [0x03, 9] (inState (.halt .run))).line.state = .halt .run ∧ t.line.state ≠ .halt .run :=
  ⟨_, rfl, rfl, by decide⟩

theorem witness_RefusedRequestChangesNothing : requestRow .pollNotices = some ⟨0x3F, 2, false, 3⟩ ∧
    Instr.pollNotices ≠ .initializeLine ∧
    (ask 6 [0x3F, 9] belt).link.receiveQueue = { station := 6, data := [0x3F, 9] } :: [] ∧
    (ask 6 [0x3F, 9] belt).link.transmitQueue.length + 3 ≤ 16 := ⟨rfl, by decide, rfl, by decide⟩

theorem witness_EventEndsWithDrainTestAndOutputs :
    ((inState .drain).line.state = .drain ∧ (inState .drain).admission.entries = [] ∧
      (inState .drain).track.records = [] ∧ ∀ k : OutletId, (inState .drain).outlets[k].queue = []) ∧
    ¬ (belt.line.state = .drain ∧ belt.admission.entries = [] ∧ belt.track.records = [] ∧
      ∀ k : OutletId, belt.outlets[k].queue = []) := by decide

theorem witness_NoticesAreEnteredAndSent : (airChannel = airChannel ∨ airChannel = resChannel) ∧
    (11 : ChannelId).val = (11 : OutletId).val := by decide

theorem witness_CutDeEnergisesEveryDiverter :
    belt.air.pulses[(0 : OutletId)] = none ∧ belt.air.pulses[(6 : OutletId)] = some { tag := 5, pulseEnd := 0 } := by
  decide

/-- Outlet 7's record 6 bids for the one free slot. -/
def bidding (f : Outlet → Outlet) : State :=
  ((outlet7 f).onTrack fun t => { t with records := [record 6 .requesting] }).onAir fun a =>
    { a with requests := a.requests.set 6 (some 6) }

theorem witness_ExaminationGrantsInOrder :
    (energisedCount (bidding id) < (bidding id).air.slots ∧ (bidding id).air.airWait = false ∧
      (bidding id).line.state = .run ∧ (bidding id).line.estop = false ∧
      (bidding id).air.requests[(6 : OutletId)] ≠ none ∧
      ∀ j : OutletId, j ≠ 6 → (bidding id).air.requests[j] ≠ none → rankBelowMark 0 6 < rankBelowMark 0 j) ∧
    ¬ (energisedCount belt < belt.air.slots ∧ (∃ k : OutletId, belt.air.requests[k] ≠ none) ∧
      belt.air.airWait = false ∧ (belt.line.state = .run ∨ belt.line.state = .drain) ∧ belt.line.estop = false) := by
  decide

/-- The bid at an outlet whose queue already holds three entries. -/
def fourth : State := bidding fun o => { o with queue := [entry 1 (.awaiting 9), entry 2 (.awaiting 9), entry 3 (.awaiting 9)] }

theorem witness_GrantMovesTheItem :
    (bidding id).air.requests[(6 : OutletId)] = some 6 ∧ (bidding id).track.records = [] ++ record 6 .requesting :: [] ∧
    (record 6 .requesting).tag = 6 ∧ (bidding id).outlets[(6 : OutletId)].queue.length ≠ 3 ∧
    (bidding fun o => { o with masked := true }).air.requests[(6 : OutletId)] = some 6 ∧
    accepting 6 (bidding fun o => { o with masked := true }) = false ∧
    fourth.air.requests[(6 : OutletId)] = some 6 ∧ fourth.track.records = [] ++ record 6 .requesting :: [] ∧
    accepting 6 fourth = true ∧ fourth.outlets[(6 : OutletId)].queue.length = 3 ∧ BidsFound fourth :=
  ⟨by decide, rfl, rfl, by decide, by decide, by decide, by decide, rfl, by decide, by decide,
    bidsFound_of_nodup (by decide)⟩

/-- A record with the alternate outlet 7. -/
def alternating (centre : Position) : TrackRecord :=
  { record 6 .requesting with centre := centre, primary := some 3, target := some 3, alternate := some 6 }

/-- Outlet 7's bid when the outlet is masked and the air channel is in trouble. -/
def refused : State := (bidding fun o => { o with masked := true }).onAir fun a => { a with airWait := true }

theorem witness_LossTurnsEveryBidAway :
    (accepting 6 refused = false ∧ BidsFound refused ∧ refused.air.airWait = true ∧ RequestsSound refused ∧
      refused.track.records = [record 6 .requesting]) ∧
    (record 6 .requesting).alternate = none ∧
    ((alternating 0).alternate = some 6 ∧ (alternating 0).fallback = false) ∧
    State.reset.outlets[(6 : OutletId)].state = .unconfigured ∧ (outlet7 id).outlets[(6 : OutletId)].state ≠ .unconfigured ∧
    classify 6 (alternating 0) (outlet7 id) = .notYet ∧ classify 6 (alternating (0 - 1155)) (outlet7 id) = .inWindow ∧
    classify 6 (alternating (0 - 1200)) (outlet7 id) = .inWindow ∧
    classify 6 (alternating (0 - 1201)) (outlet7 id) = .passed :=
  ⟨⟨by decide, bidsFound_of_nodup (by decide), by decide, ⟨bidsFound_of_nodup (by decide), by decide⟩, by decide⟩,
    by decide⟩

/-- One record at outlet 7, its diverter off, under air wait or not. -/
def evaluated (r : TrackRecord) (wait : Bool) : State :=
  ((outlet7 id).onTrack fun t => { t with records := [r] }).onAir fun a => { a with airWait := wait }

/-- The clauses of the evaluation in their order: no target, one that stays, one that bids, one that falls back to residue
and one that falls back to a bid at its alternate; then air wait, the presentations, and the pass over a track. -/
theorem witness_WindowEvaluationActs :
    (sentToResidue (record 6 .waiting)).target = none ∧
    classify 6 (record 6 .waiting) (evaluated (record 6 .waiting) false) = .notYet ∧
    (classify 6 { record 6 .waiting with centre := 0 - 1200 } (outlet7 id) = .inWindow ∧ accepting 6 (outlet7 id) = true) ∧
    (classify 6 { record 6 .requesting with centre := 0 - 1201 } (outlet7 id) = .passed ∧
      (fallbackRecord { record 6 .requesting with centre := 0 - 1201 } (outlet7 id)).state ≠ .requesting) ∧
    (classify 3 (alternating (0 - 1200)) (outlet7 id) = .passed ∧
      (fallbackRecord (alternating (0 - 1200)) (outlet7 id)).state = .requesting ∧
      (fallbackRecord (alternating (0 - 1200)) (outlet7 id)).target = some 6) ∧
    ((evaluated (record 6 .waiting) true).air.airWait = true ∧
      (evaluated (record 6 .waiting) true).track.records = [] ++ record 6 .waiting :: [] ∧
      ((evaluated (record 6 .waiting) true).track.records.map fun r => r.tag).Nodup) ∧
    RequestsSound (bidding id) ∧
    (energised 6 belt = true ∧ energised 6 (outlet7 id) = false ∧ oldestRequesting 6 (outlet7 id) = none ∧
      oldestRequesting 6 (bidding id) = some (record 6 .requesting) ∧
      (bidding id).air.requests[(6 : OutletId)] = some (record 6 .requesting).tag ∧
      oldestRequesting 6 (evaluated (record 6 .requesting) false) = some (record 6 .requesting) ∧
      (evaluated (record 6 .requesting) false).air.requests[(6 : OutletId)] ≠ some (record 6 .requesting).tag) :=
  ⟨by decide, by decide, by decide, by decide, by decide, by decide, ⟨bidsFound_of_nodup (by decide), by decide⟩,
    by decide⟩

theorem witness_RetirementCountsOutcomes :
    let s := run.onTrack fun t => { t with records := [{ record 6 .toResidue with centre := 0 - 2200 }, record 7 .waiting] }
    (∀ r ∈ s.track.records.takeWhile (fun r => pastBeltEnd r s), r.state ≠ .requesting) ∧
      (s.track.records.takeWhile fun r => pastBeltEnd r s).length = 1 := by decide

theorem witness_AdmissionCreatesTheRecord :
    (run.onTrack fun t => { t with records := List.replicate 47 (record 6 .waiting) }).track.records.length < 48 ∧
    48 ≤ (run.onTrack fun t => { t with records := List.replicate 48 (record 6 .waiting) }).track.records.length ∧
    -- a return to a balance whose above flag is set by it, and by wrapping below its bound
    ((2 : StationId) = Fin.succ (1 : Fin 6) ∧
      (let v := (cups .wrap).onBalance 1 fun b =>
        { b with accounts := b.accounts.set 2 { value := -32768, excursion := 0, overFlag := false, aboveFlag := false } }
       v.balances[1].accounts[2].aboveFlag = false ∧
         (v.balances[1].thresholds[2] : Int) < (addAmount v.balances[1].mode (-1) v.balances[1].accounts[2]).value)) := by
  decide

theorem witness_WindowsLieAheadOfAdmission :
    (3 ≤ 400 ∧ 400 ≤ 400 ∧ 660 ≤ 660 ∧ 660 ≤ 3000 ∧ 256 ≤ 256 ∧ 0 ≤ signedDiff (400 : Position) 0 ∧
      signedDiff (400 : Position) 0 ≤ (400 : Nat)) ∧
    (-400000 ≤ signedDiff (0 : Position) 400000 ∧ signedDiff (0 : Position) 400000 ≤ 400000) ∧
    windowOf (-256) 200 256 ≠ .passed := by decide

theorem witness_LeadRoundsToTheNearestCount : (250 ≤ 250 ∧ 1023 ≤ 1023) ∧ (3 ≤ 3 ∧ 166 ≤ 166) := by decide

theorem witness_PulsesAreTravelTimesClamped :
    (1 ≤ 2 ∧ 10 ≤ 10 ∧ 2 * 1000 ≤ 200 * 10) ∧ (20 ≤ 20 ∧ 9 < 10 ∧ 10 ≤ 10) := by decide

theorem witness_AddsClampOrWrap :
    let a : Accumulator := { value := 32767, excursion := 30, overFlag := false, aboveFlag := true }
    (-32768 ≤ a.value ∧ a.value ≤ 32767 ∧ -32 ≤ a.excursion ∧ a.excursion ≤ 31 ∧ (-4095 : Int) ≤ 4095) ∧
      (a.excursion < 31 ∨ a.value + 4095 ≤ 32767) ∧ (-32 < a.excursion ∨ -32768 ≤ a.value + 4095) := by decide

theorem witness_OwnerChangeResetsForeignRoutes : ((0 : StationId) = 0 ∨ (0 : StationId) = 2) ∧
    (3 : StationId) ≠ 0 ∧ (3 : StationId) ≠ 2 := by decide

/-- The encoder with a debt, both phase lines low. -/
def withDebt (n : Nat) (s : State) : State := s.onSensing fun b => { b with debt := n }

theorem witness_EncoderStepsWithoutAdvance :
    belt.sensing.previous = ⟨false, false⟩ ∧ (⟨true, false⟩ : Phases) = nextForward belt.sensing.previous ∧
    0 < (withDebt 1 belt).sensing.debt ∧ belt.sensing.previous = nextForward ⟨false, true⟩ ∧
    (withDebt 255 belt).sensing.debt ≠ 64 ∧ (withDebt 64 belt).sensing.debt = 64 ∧
    haltOf belt.line.state = some (.halt .run) ∧ haltOf (withDebt 64 State.reset).line.state = none := by decide

/-- A pending entry carried `n` counts. -/
def carried (n : Position) : PendingEntry := { capture := 1, leading := 0 - n, trailing := none, record := none }

/-- A belt in HALT with such an entry at the head. -/
def halted (n : Position) : State := (inState (.halt .drain)).onAdmission fun a => { a with entries := [carried n] }

theorem witness_AdvanceMovesTheBeltByOne :
    nextForward run.sensing.previous = ⟨true, false⟩ ∧ run.sensing.debt = 0 ∧ OutputsDriven (driveOutputs run) ∧
    (driveOutputs run).admission.entries = [] ∧ (driveOutputs run).track.records = [] ∧
    (driveOutputs run).line.state ≠ .drain := by
  unfold OutputsDriven StoppedCondition SlowCondition; decide

theorem witness_AdvanceDiscardsInHalt :
    (halted 3200).line.state = .halt .drain ∧ (halted 3200).admission.entries = carried 3200 :: [] ∧
    3200 ≤ signedDiff (halted 3200).sensing.position (carried 3200).leading ∧
    signedDiff (halted 3199).sensing.position (carried 3199).leading < 3200 := by decide

theorem witness_IntervalCloseMeasuresSpeed :
    (belt.onNow fun _ => 32).sensing.intervalEnd ≤ (belt.onNow fun _ => 32).now ∧
    (belt.onNow fun _ => 31).now < (belt.onNow fun _ => 31).sensing.intervalEnd := by decide

theorem witness_InputSampleFiltersEveryInput :
    (QuantitiesInRange belt ∧ belt.sensing.edges = []) ∧
    ((edge (.chuteGate 6) true 0 belt).sensing.edges = { input := .chuteGate 6, rising := true, position := 0 } :: [] ∧
      edgeCommand { input := .chuteGate 6, rising := true, position := 0 } = some (.chuteGateRising 6)) ∧
    (∀ e ∈ (edge (.chuteGate 6) true 0 belt).sensing.edges, e.input ≠ .readyLine 6) ∧
    (edge (.chuteGate 6) true 0 belt).reports { input := .chuteGate 6, rising := true, position := 0 } [] :=
  ⟨⟨witness_QuantitiesInRange, rfl⟩, ⟨rfl, rfl⟩, by simp [edge], reports_edge _ _ _ _⟩

theorem witness_LeadingEdgeOpensEntry :
    (edge .ge true 7 run).reports { input := .ge, rising := true, position := 7 } [] ∧
    (edge .ge true 7 run).line.state = .run ∧ (edge .ge true 7 run).admission.entries.length < 4 ∧
    (edge .ge true 7 (run.onAdmission fun a =>
      { a with entries := List.replicate 4 { capture := 1, leading := 0, trailing := none, record := none } }
      )).admission.entries.length = 4 ∧
    (edge .ge true 7 State.reset).line.state ≠ .run := ⟨reports_edge _ _ _ _, by decide⟩

theorem witness_TrailingEdgeGivesPosition :
    (edge .ge false 7 belt).reports { input := .ge, rising := false, position := 7 } [] ∧
    (∀ e ∈ (edge .ge false 7 run).admission.entries, e.trailing ≠ none) ∧
    (edge .ge false 7 belt).admission.entries =
      [] ++ { capture := 1, leading := 0, trailing := none, record := none } :: [] ∧
    (let e : PendingEntry := { capture := 1, leading := 0, trailing := some 9, record := none }
     (belt.onSensing fun b => { b with position := 200 }).geometry.identityOffset ≤ signedDiff (200 : Position) e.leading) ∧
    ¬ (State.reset.line.state = .run ∨ State.reset.line.state = .drain) := ⟨reports_edge _ _ _ _, by decide⟩

/-- The Identity Port one byte short of a record. -/
def collecting (taken : List Byte) (s : State) : State := s.onAdmission fun a => { a with framing := .collecting taken }

theorem witness_IdentityPortIsServed :
    belt.admission.framing = .hunting ∧
    ((collecting [0xC3, 0, 0, 0] belt).admission.framing = .collecting [0xC3, 0, 0, 0] ∧ [0xC3, 0, 0, 0].length < 5) ∧
    ((collecting [0xC3, 1, 4, 2, 9] belt).admission.framing = .collecting [0xC3, 1, 4, 2, 9] ∧
      (16 : Byte) = 1 + 4 + 2 + 9 ∧ (1 : Byte).toNat < 16 ∧ ¬ ((16 : Byte).toNat < 16)) ∧
    (belt.admission.entries = [] ++ { capture := 1, leading := 0, trailing := none, record := none } :: [] ∧
      (1 : CaptureNumber).toNat = (1 : Byte).toNat ∧ ∀ e ∈ belt.admission.entries, e.capture.toNat ≠ (15 : Byte).toNat) ∧
    (belt.admission.sending = none ∧ belt.admission.captureQueue = 1 :: []) ∧ run.admission.captureQueue = [] ∧
    (belt.onAdmission fun a => { a with frameTimer := some 0 }).admission.frameTimer = some 0 ∧ 0 ≤ belt.now := by decide

theorem witness_PulseEndFreesTheDiverter :
    belt.air.pulses[(6 : OutletId)] = some { tag := 5, pulseEnd := 0 } ∧ 0 ≤ belt.now ∧
    (belt.onAir fun a => { a with airWait := true }).air.airWait = true ∧ belt.air.pulses[(0 : OutletId)] = none ∧
    (belt.onAir fun a => { a with pulses := a.pulses.set 6 (some { tag := 5, pulseEnd := 1 }) }).air.pulses[(6 : OutletId)] =
      some { tag := 5, pulseEnd := belt.now + 1 } := by decide

theorem witness_EstopLineHaltsAndCuts :
    haltOf (inState .drain).line.state = some (.halt .drain) ∧ haltOf (inState (.halt .run)).line.state = none := by decide

theorem witness_OutletsEnterTheirStates :
    (outlet7 fun o => { o with mode := .handoff }).outlets[(6 : OutletId)].mode = .handoff ∧
    (State.reset.outlets[(6 : OutletId)].mode = .crate ∧
      filteredState (.crateSensor 6) State.reset = false) ∧
    ((outlet7 id).outlets[(6 : OutletId)].mode = .crate ∧
      filteredState (.crateSensor 6) (outlet7 id) = true ∧
      (outlet7 id).outlets[(6 : OutletId)].currentCount ≠ 0 ∧
      (outlet7 fun o => { o with currentCount := 0 }).outlets[(6 : OutletId)].currentCount = 0) := by decide

/-- A chute-gate edge at outlet 7 as `f` leaves it. -/
def gate (f : Outlet → Outlet) : State := edge (.chuteGate 6) true 0 (outlet7 f)

theorem witness_ChuteGateConfirms :
    ((gate id).reports { input := .chuteGate 6, rising := true, position := 0 } [] ∧
      (gate fun o => { o with currentCount := 1, queue := [entry 5 .pulsing] }).reports
        { input := .chuteGate 6, rising := true, position := 0 } []) ∧
    (gate fun o => { o with mode := .handoff }).outlets[(6 : OutletId)].mode = .handoff ∧
    (gate fun o => { o with state := .unconfigured }).outlets[(6 : OutletId)].state = .unconfigured ∧
    -- no crate in place, an OVERFILL, the last place, and a stray that takes a place or none
    (gate fun o => { o with state := .swap, queue := [entry 5 .pulsing] }).outlets[(6 : OutletId)].state = .swap ∧
    ((gate fun o => { o with state := .held, currentCount := 0, queue := [entry 5 .pulsing] }
      ).outlets[(6 : OutletId)].currentCount = 0) ∧
    ((gate fun o => { o with currentCount := 1, queue := [entry 5 .pulsing] }).outlets[(6 : OutletId)].state = .opened ∧
      (gate fun o => { o with currentCount := 1, queue := [entry 5 .pulsing] }).outlets[(6 : OutletId)].queue =
        entry 5 .pulsing :: []) ∧
    ((gate id).outlets[(6 : OutletId)].queue = [] ∧ 0 < (gate id).outlets[(6 : OutletId)].currentCount) ∧
    (gate fun o => { o with state := .full }).outlets[(6 : OutletId)].state = .full :=
  ⟨⟨reports_edge _ _ _ _, reports_edge _ _ _ _⟩, by decide⟩

/-- A ready-line edge at outlet 7, in HANDOFF mode, as `f` leaves it. -/
def ready (rising : Bool) (f : Outlet → Outlet) : State :=
  edge (.readyLine 6) rising 0 (outlet7 fun o => f { o with mode := .handoff })

/-- The ready line of outlet 7 has fallen and waits, and the outlet's bid stands. -/
def fallen : State :=
  edge (.readyLine 6) false 0
    (((bidding fun o => { o with mode := .handoff }).onSensing fun b =>
      { b with readyLines := b.readyLines.set 6 { active := false, run := 0 } }))

theorem witness_EdgesSound : EdgesSound fallen := by unfold EdgesSound; decide

/-- A mask taken between the sample that drops the ready line and its edge turns the bid away. -/
theorem test_mask_before_ready_fall :
    accepting 6 fallen = true ∧
      (after .mask (ask 0 [0x10, 9, 7] fallen)).track.records.map (·.state) = [.toResidue] := by decide

/-- The next sample hands a fall that still waits. -/
theorem test_sample_hands_the_fall :
    (after (.inputSample false (Vector.replicate 12 false) (Vector.replicate 12 true) (Vector.replicate 12 false)) fallen
      ).track.records.map (·.state) = [.toResidue] := by decide

theorem witness_ReadyLineConfirms :
    ((ready true id).reports { input := .readyLine 6, rising := true, position := 0 } [] ∧
      (ready false id).reports { input := .readyLine 6, rising := false, position := 0 } [] ∧
      (ready false fun o => { o with queue := [entry 5 .pulsing] }).reports
        { input := .readyLine 6, rising := false, position := 0 } []) ∧
    (ready false fun o => { o with mode := .crate }).outlets[(6 : OutletId)].mode = .crate ∧
    (ready false fun o => { o with state := .unconfigured }).outlets[(6 : OutletId)].state = .unconfigured ∧
    ((ready false id).outlets[(6 : OutletId)].mode = .handoff ∧ (ready false id).outlets[(6 : OutletId)].state = .opened ∧
      (ready false id).outlets[(6 : OutletId)].queue = []) ∧
    (ready false fun o => { o with queue := [entry 5 .pulsing] }).outlets[(6 : OutletId)].queue = entry 5 .pulsing :: [] ∧
    EdgesSound fallen ∧ fallen.reports { input := .readyLine 6, rising := false, position := 0 } [] :=
  ⟨⟨reports_edge _ _ _ _, reports_edge _ _ _ _, reports_edge _ _ _ _⟩, by decide, by decide, by decide, by decide,
    witness_EdgesSound, reports_edge _ _ _ _⟩

theorem witness_ConfirmTimeoutGivesUp :
    (outlet7 fun o => { o with queue := [entry 5 (.awaiting 0)] }).outlets[(6 : OutletId)].queue =
      entry 5 (.awaiting 0) :: [] ∧ (entry 5 (.awaiting 0)).phase = .awaiting 0 ∧ 0 ≤ (outlet7 id).now ∧
    (outlet7 id).now < 1 ∧ (entry 5 .pulsing).phase = .pulsing := by decide

/-- A crate-sensor edge at outlet 7 as `f` leaves it. -/
def crate (rising : Bool) (f : Outlet → Outlet) : State := edge (.crateSensor 6) rising 0 (outlet7 f)

theorem witness_CrateEdgesMoveTheOutlet :
    ((crate false id).reports { input := .crateSensor 6, rising := false, position := 0 } [] ∧
      (crate true fun o => { o with state := .swap, consecutive := 3 }).reports
        { input := .crateSensor 6, rising := true, position := 0 } []) ∧
    ((crate false id).outlets[(6 : OutletId)].mode = .crate ∧ (crate false id).outlets[(6 : OutletId)].state = .opened) ∧
    (crate false fun o => { o with state := .swap }).outlets[(6 : OutletId)].state = .swap ∧
    ((crate true fun o => { o with state := .swap, consecutive := 3 }).outlets[(6 : OutletId)].autoreload = true ∧
      (crate true fun o => { o with state := .swap, consecutive := 3 }).outlets[(6 : OutletId)].consecutive = 3 ∧
      (crate true fun o => { o with state := .swap, consecutive := 2 }).outlets[(6 : OutletId)].consecutive ≠ 3 ∧
      (crate true fun o => { o with state := .swap, autoreload := false }).outlets[(6 : OutletId)].autoreload = false) ∧
    (crate true id).outlets[(6 : OutletId)].state ≠ .swap :=
  ⟨⟨reports_edge _ _ _ _, reports_edge _ _ _ _⟩, by decide⟩

theorem witness_ChannelSamplesAreCounted :
    (fp7 64 fun ch => { ch with state := .settling, settleEnd := some 64 }).channels[(6 : ChannelId)].settleEnd = some 64 ∧
    (fp7 63 fun ch => { ch with state := .settling, settleEnd := some 64 }).now < 64 ∧
    (fp7 0 id).channels[(6 : ChannelId)].state ≠ .settling ∧
    (fp7 72 fun ch => { ch with state := .samplingFirst, firstRun := some (true, 1), nextSample := some 72 }
      ).channels[(6 : ChannelId)].firstRun = some (!false, 1) ∧
    (fp7 72 fun ch => { ch with state := .watching, opposing := 1, nextSample := some 72 }
      ).channels[(6 : ChannelId)].opposing < 2 ∧
    (fp7 72 id).channels[(6 : ChannelId)].detected = false := by decide

theorem witness_ChannelVerdictsAct :
    (fp7 72 fun ch => { ch with state := .samplingFirst, firstRun := some (true, 2), nextSample := some 72 }
      ).channels[(6 : ChannelId)].firstRun = some (true, 2) ∧
    (fp7 72 fun ch => { ch with state := .watching, opposing := 2, nextSample := some 72 }
      ).channels[(6 : ChannelId)].opposing = 2 ∧
    (fp7 72 fun ch => { ch with mode := .checkAlert }).channels[(6 : ChannelId)].mode = .checkAlert ∧
    (6 : OutletId).val = (6 : ChannelId).val ∧ (0 : ChannelId) ≠ airChannel ∧ (0 : ChannelId) ≠ resChannel ∧
    (fp7 0 id).outlets[(6 : OutletId)].state = .opened ∧ State.reset.outlets[(6 : OutletId)].state ≠ .opened := by decide

theorem witness_LinkFramesPass :
    (0x646 : BitVec 11).toNat = 0x640 + (6 : StationId).val ∧ belt.link.receiveQueue.length < 8 ∧
    8 ≤ (belt.onLink fun l => { l with receiveQueue := List.replicate 8 { station := 0, data := [] } }).link.receiveQueue.length ∧
    (0x63F : BitVec 11).toNat < 0x640 ∧ 0x646 < (0x647 : BitVec 11).toNat ∧ belt.link.transmitQueue ≠ [] ∧
    (belt.onLink fun l => { l with transmitQueue := [] }).link.transmitQueue = [] ∧
    (belt.onLink fun l => { l with transmitting := true }).link.transmitting = true ∧ belt.link.transmitting = false := by
  decide

theorem witness_LinkChecksComeFirst :
    (ask 6 [] belt).asked 6 [] [] ∧ (ask 6 [0x01] belt).asked 6 [0x01] [] ∧ (ask 6 [0x0B, 9] belt).asked 6 [0x0B, 9] [] ∧
    (∀ c row, requestRow c = some row → row.code ≠ 0x0B) ∧
    (requestRow .start = some ⟨0x01, 2, true, 1⟩ ∧ ([5] : List Byte).length + 2 ≠ 2 ∧ (6 : StationId) ≠ 0) ∧
    16 < (belt.onLink fun l => { l with transmitQueue := List.replicate 16 { identifier := 0x650, data := [] } }
      ).link.transmitQueue.length + 1 ∧
    belt.link.receiveQueue = [] ∧ (ask 6 [0x02, 9] belt).link.receiveQueue = { station := 6, data := [0x02, 9] } :: [] := by
  refine ⟨asked_ask _ _ _ (by decide), asked_ask _ _ _ (by decide), asked_ask _ _ _ (by decide), ?_, by decide,
    by decide, rfl, rfl⟩
  intro c row h
  cases c <;> simp [requestRow] at h <;> subst h <;> decide

theorem witness_MasksAndPolls :
    (ask 6 [0x3E, 9, 0xFF] belt).asked 6 [0x3E, 9, 0xFF] [] ∧ (ask 0 [0x3F, 9] belt).asked 0 [0x3F, 9] [] ∧
    (ask 0 [0x3F, 9] belt).link.transmitQueue.length ≤ 13 :=
  ⟨asked_ask _ _ _ (by decide), asked_ask _ _ _ (by decide), by decide⟩

theorem witness_LineRequestsMoveTheLine :
    ((ask 0 [0x01, 9] (inState .standby)).asked 0 [0x01, 9] [] ∧ (ask 0 [0x02, 9] run).asked 0 [0x02, 9] [] ∧
      (ask 0 [0x04, 9] (inState (.halt .drain))).asked 0 [0x04, 9] []) ∧
    ((inState .standby).line.state = .standby ∧ (inState .standby).line.estop = false ∧
      (inState .standby).geometry.beltEnd ≠ none) ∧
    ¬ (State.reset.line.state = .standby ∧ State.reset.line.estop = false ∧ State.reset.geometry.beltEnd ≠ none) ∧
    run.line.state = .run ∧ (inState .drain).line.state ≠ .run ∧
    ((inState (.halt .drain)).line.state = .halt .drain ∧ (inState (.halt .drain)).line.estop = false ∧
      (inState (.halt .drain)).sensing.debt = 0 ∧ (withDebt 1 (inState (.halt .drain))).sensing.debt ≠ 0) :=
  ⟨⟨asked_ask _ _ _ (by decide), asked_ask _ _ _ (by decide), asked_ask _ _ _ (by decide)⟩, by decide⟩

theorem witness_StopEmptiesTheBelt : (ask 0 [0x03, 9] belt).asked 0 [0x03, 9] [] ∧
    (ask 0 [0x03, 9] belt).line.state ≠ .standby ∧ (ask 0 [0x03, 9] State.reset).line.state = .standby :=
  ⟨asked_ask _ _ _ (by decide), by decide⟩

theorem witness_InitializeResetsTheBlocks : (ask 0 [0x05, 9] belt).asked 0 [0x05, 9] [] :=
  asked_ask _ _ _ (by decide)

theorem witness_SettingsAreWritten :
    ((ask 0 [0x06, 9, 1, 144, 12, 128, 47] State.reset).asked 0 [0x06, 9, 1, 144, 12, 128, 47] [] ∧
      (ask 0 [0x07, 9, 1, 1] belt).asked 0 [0x07, 9, 1, 1] [] ∧ (ask 0 [0x08, 9, 2, 1] belt).asked 0 [0x08, 9, 2, 1] [] ∧
      (ask 0 [0x09, 9, 12, 40, 50, 20, 0, 250] belt).asked 0 [0x09, 9, 12, 40, 50, 20, 0, 250] []) ∧
    (State.reset.line.state = .standby ∧ (1 * 256 + 144 ≤ 400 ∧ 12 * 256 + 128 ≤ 3200 ∧ 47 ≤ 47) ∧
      ∀ k : OutletId, State.reset.timing[k].offset = none) ∧ belt.line.state ≠ .standby ∧
    (¬ (401 ≤ 400) ∧ ¬ (1 ≤ (0 : Byte).toNat) ∧ ¬ ((3 : Byte) = 1 ∨ (3 : Byte) = 2)) ∧
    ((12 : Byte) = numberByte (11 : OutletId) ∧ ∀ k : OutletId, (13 : Byte) ≠ numberByte k) :=
  ⟨⟨asked_ask _ _ _ (by decide), asked_ask _ _ _ (by decide), asked_ask _ _ _ (by decide), asked_ask _ _ _ (by decide)⟩,
    by decide⟩

/-- The stage for outlet 7, masked and not placed before. -/
def placing : State :=
  State.reset.onLink fun l =>
    { l with stage := some { outlet := 6, latency := 250, extension := 50, minPulse := 100, maxPulse := 500 } }

theorem witness_PlacementConfiguresTheOutlet :
    (ask 0 [0x0A, 9, 7, 0x16, 3, 232, 11, 184] placing).asked 0 [0x0A, 9, 7, 0x16, 3, 232, 11, 184] [] ∧
    ((7 : Byte) = numberByte (6 : OutletId) ∧ ∀ k : OutletId, (0 : Byte) ≠ numberByte k) ∧
    (placing.outlets[(6 : OutletId)].masked = true ∧ (∀ r ∈ placing.track.records, r.target ≠ some 6) ∧
      placing.outlets[(6 : OutletId)].queue = [] ∧ placing.channels[fillProbe 6].state = .off) ∧
    placing.link.stage = some { outlet := 6, latency := 250, extension := 50, minPulse := 100, maxPulse := 500 } ∧
    ((0x16 : Byte).toNat = OutletMode.handoff.code * 16 + (6 : StationId).val ∧ 3 * 256 + 232 ≤ 1000 ∧
      11 * 256 + 184 ≤ 3000) ∧
    (∀ k : OutletId, placing.timing[k].offset = none) ∧ placing.geometry.beltEnd = none ∧
    -- the other starting states, and what each check refuses
    (outlet7 id).outlets[(6 : OutletId)].masked = false ∧ State.reset.link.stage = none ∧
    placing.outlets[(6 : OutletId)].state = .unconfigured ∧
    (outlet7 fun o => { o with state := .jammed, masked := true }).outlets[(6 : OutletId)].state = .jammed ∧
    (outlet7 fun o => { o with masked := true }).outlets[(6 : OutletId)].mode ≠ .handoff :=
  ⟨asked_ask _ _ _ (by decide), by decide⟩

theorem witness_OutletRequestsAct :
    ((ask 2 [0x10, 9, 7] (outlet7 id)).asked 2 [0x10, 9, numberByte (6 : OutletId)] [] ∧
      (ask 2 [0x11, 9, 7] (outlet7 id)).asked 2 [0x11, 9, numberByte (6 : OutletId)] [] ∧
      (ask 2 [0x12, 9, 7, 250, 1] (outlet7 id)).asked 2 [0x12, 9, numberByte (6 : OutletId), 250, 1] [] ∧
      (ask 2 [0x13, 9, 7] (outlet7 id)).asked 2 [0x13, 9, numberByte (6 : OutletId)] [] ∧
      (ask 2 [0x14, 9, 7] (outlet7 id)).asked 2 [0x14, 9, numberByte (6 : OutletId)] []) ∧
    (Instr.mask ∈ [Instr.mask, .unmask, .setCrate, .reloadCrate, .clearJam] ∧
      requestRow .mask = some ⟨0x10, 3, false, 1⟩ ∧ ([] : List Byte).length + 3 = 3) ∧
    ((2 : StationId) = (outlet7 id).outlets[(6 : OutletId)].owner ∧ (3 : StationId) ≠ 0 ∧
      (3 : StationId) ≠ (outlet7 id).outlets[(6 : OutletId)].owner ∧ ∀ k : OutletId, (13 : Byte) ≠ numberByte k) ∧
    ((250 : Byte).toNat ≤ 250 ∧ ¬ ((251 : Byte).toNat ≤ 250) ∧ ¬ ((2 : Byte) = 0 ∨ (2 : Byte) = 1)) ∧
    ((outlet7 fun o => { o with state := .held, consecutive := 3 }).outlets[(6 : OutletId)].state = .held ∧
      (outlet7 fun o => { o with state := .held, consecutive := 3 }).outlets[(6 : OutletId)].consecutive = 3 ∧
      (outlet7 fun o => { o with state := .full }).outlets[(6 : OutletId)].consecutive ≠ 3 ∧
      (outlet7 fun o => { o with state := .jammed }).outlets[(6 : OutletId)].state = .jammed ∧
      (outlet7 id).outlets[(6 : OutletId)].state ≠ .jammed) :=
  ⟨⟨asked_ask _ _ _ (by decide), asked_ask _ _ _ (by decide), asked_ask _ _ _ (by decide), asked_ask _ _ _ (by decide),
    asked_ask _ _ _ (by decide)⟩, by decide⟩

theorem witness_SetRouteWritesTheEntry :
    (ask 2 [0x18, 9, 2, 10, 7, 0, 15] (outlet7 id)).asked 2 [0x18, 9, 2, 10, 7, 0, 15] [] ∧
    (6 < (7 : Byte).toNat ∧ 10 < (11 : Byte).toNat ∧ 12 < (13 : Byte).toNat ∧ 15 < (16 : Byte).toNat) ∧
    ((2 : Byte).toNat = (2 : StationId).val ∧ (10 : Byte).toNat = (10 : Fin 11).val ∧
      (7 : Byte).toNat = outletNumber (some 6) ∧ (0 : Byte).toNat = outletNumber none ∧
      (15 : Byte).toNat = (15 : Confidence).val) ∧
    -- an own outlet, one foreign to row 3, one that is not placed, and a foreign sender
    ((outlet7 id).outlets[(6 : OutletId)].owner = 2 ∧ (outlet7 id).timing[(6 : OutletId)].offset ≠ none ∧
      (outlet7 id).outlets[(6 : OutletId)].owner ≠ 3 ∧ (outlet7 id).timing[(0 : OutletId)].offset = none ∧
      (outlet7 id).outlets[(0 : OutletId)].owner = 0 ∧ (4 : StationId) ≠ 0 ∧ (4 : StationId) ≠ 2) :=
  ⟨asked_ask _ _ _ (by decide), by decide⟩

theorem witness_ChannelRequestsAct :
    ((ask 2 [0x20, 9, 7, 2, 128, 128, 32, 3] (outlet7 id)).asked 2 [0x20, 9, numberByte (6 : ChannelId), 2, 128, 128, 32, 3] [] ∧
      (ask 2 [0x21, 9, 7] (outlet7 id)).asked 2 [0x21, 9, numberByte (6 : ChannelId)] [] ∧
      (ask 0 [0x22, 9, 14] belt).asked 0 [0x22, 9, numberByte (13 : ChannelId)] []) ∧
    (Instr.setChannel ∈ [Instr.setChannel, .enableChannel, .channelOff] ∧
      requestRow .channelOff = some ⟨0x22, 3, false, 1⟩ ∧ ([] : List Byte).length + 3 = 3) ∧
    ((2 : StationId) = channelOwner 6 (outlet7 id) ∧ (2 : StationId) ≠ channelOwner 13 (outlet7 id) ∧
      ∀ c : ChannelId, (15 : Byte) ≠ numberByte c) ∧
    ((outlet7 id).channels[(6 : ChannelId)].state = .off ∧ (2 : Byte).toNat = ChannelMode.checkAlert.code ∧
      (3 : Byte).toNat = NoticeEdges.never.code ∧ (128 : Byte).toNat ≤ (128 : Byte).toNat ∧
      ¬ ((3 : Byte).toNat ≤ 2) ∧ ¬ ((5 : Byte) = 4 ∨ (5 : Byte) = 8 ∨ (5 : Byte) = 16 ∨ (5 : Byte) = 32)) ∧
    ((outlet7 id).outlets[(6 : OutletId)].mode ≠ .handoff ∧
      (outlet7 fun o => { o with mode := .handoff }).outlets[(6 : OutletId)].mode = .handoff) ∧
    ((fp7 0 fun ch => { ch with state := .watching, detected := true }).channels[(6 : ChannelId)].state = .watching ∧
      (fp7 0 fun ch => { ch with state := .watching, detected := true }).channels[(6 : ChannelId)].detected = true ∧
      (fp7 0 fun ch => { ch with state := .settling }).channels[(6 : ChannelId)].state ≠ .off) :=
  ⟨⟨asked_ask _ _ _ (by decide), asked_ask _ _ _ (by decide), asked_ask _ _ _ (by decide)⟩, by decide⟩

theorem witness_BalanceMastersChangeTheValue :
    ((ask 2 [0x28, 9, 2, 3, 15, 255] (cups .wrap)).asked 2 [0x28, 9, numberByte (1 : Fin 6), numberByte (2 : Fin 6), 15, 255] [] ∧
      (ask 2 [0x29, 9, 2, 3, 240, 1] (cups .wrap)).asked 2 [0x29, 9, numberByte (1 : Fin 6), numberByte (2 : Fin 6), 240, 1] [] ∧
      (ask 0 [0x2A, 9, 2, 3, 128, 0] (cups .wrap)).asked 0 [0x2A, 9, numberByte (1 : Fin 6), numberByte (2 : Fin 6), 128, 0] [] ∧
      (ask 2 [0x2C, 9, 2, 3, 127, 255] (cups .wrap)).asked 2 [0x2C, 9, numberByte (1 : Fin 6), numberByte (2 : Fin 6), 127, 255] []) ∧
    (Instr.setValue ∈ [Instr.issue, .adjust, .setValue, .setThreshold, .clearFlags] ∧
      requestRow .setValue = some ⟨0x2A, 6, false, 1⟩ ∧ ([0, 240] : List Byte).length + 4 = 6) ∧
    ((2 : StationId) = (1 : Fin 6).succ ∧ (3 : StationId) ≠ (1 : Fin 6).succ ∧ (3 : StationId) ≠ 0 ∧
      ∀ c : Fin 6, (7 : Byte) ≠ numberByte c) ∧
    (15 * 256 + 255 ≤ 4095 ∧ 4095 < 16 * 256 + 0 ∧ (-4095 : Int) ≤ ((240 * 256 + 1 : Nat) : Int) - 65536 ∧
      ((240 * 256 + 0 : Nat) : Int) - 65536 < -4095 ∧ 127 * 256 + 255 ≤ 32767 ∧ 32767 < 128 * 256 + 0) :=
  ⟨⟨asked_ask _ _ _ (by decide), asked_ask _ _ _ (by decide), asked_ask _ _ _ (by decide), asked_ask _ _ _ (by decide)⟩,
    by decide⟩

theorem witness_FlagsAndModesAreSet :
    ((ask 2 [0x2D, 9, 2, 3] (cups .wrap)).asked 2 [0x2D, 9, numberByte (1 : Fin 6), numberByte (2 : Fin 6)] [] ∧
      (ask 2 [0x2B, 9, 2, 1] (cups .wrap)).asked 2 [0x2B, 9, 2, 1] []) ∧
    ((2 : StationId) = (1 : Fin 6).succ ∧ (3 : StationId) ≠ (1 : Fin 6).succ ∧ (3 : StationId) ≠ 0) ∧
    ((2 : Byte) = numberByte (1 : Fin 6) ∧ (∀ c : Fin 6, (0 : Byte) ≠ numberByte c) ∧ (2 : Byte) ≠ 0 ∧ (2 : Byte) ≠ 1 ∧
      (1 : Byte).toNat = BalanceMode.wrap.code) :=
  ⟨⟨asked_ask _ _ _ (by decide), asked_ask _ _ _ (by decide)⟩, by decide⟩

theorem witness_ReadsAnswerQuantities :
    ((ask 6 [0x30, 9, 24] belt).asked 6 [0x30, 9, 24] [] ∧ (ask 6 [0x38, 9, 19] belt).asked 6 [0x38, 9, 19] [] ∧
      (ask 6 [0x31, 9, 12, 33] belt).asked 6 [0x31, 9, 12, 33] [] ∧ (ask 6 [0x36, 9, 14, 13] belt).asked 6 [0x36, 9, 14, 13] []) ∧
    ((12 : Byte) = numberByte (11 : OutletId) ∧ (∀ k : OutletId, (13 : Byte) ≠ numberByte k) ∧
      (14 : Byte) = numberByte (13 : ChannelId) ∧ ∀ c : ChannelId, (15 : Byte) ≠ numberByte c) :=
  ⟨⟨asked_ask _ _ _ (by decide), asked_ask _ _ _ (by decide), asked_ask _ _ _ (by decide), asked_ask _ _ _ (by decide)⟩,
    by decide⟩

theorem witness_ReadsAnswerEntries :
    ((ask 6 [0x32, 9, 7, 0, 4] belt).asked 6 [0x32, 9, 7, 0, 4] [] ∧ (ask 6 [0x33, 9, 0, 9] belt).asked 6 [0x33, 9, 0, 9] [] ∧
      (ask 6 [0x34, 9, 0, 6] belt).asked 6 [0x34, 9, 0, 6] [] ∧ (ask 6 [0x35, 9, 6, 10] belt).asked 6 [0x35, 9, 6, 10] [] ∧
      (ask 6 [0x37, 9, 6, 6, 1] belt).asked 6 [0x37, 9, 6, 6, 1] []) ∧
    ((7 : Byte) = numberByte (6 : OutletId) ∧ 3 < (4 : Byte).toNat ∧ 4 < (5 : Byte).toNat ∧
      belt.outlets[(6 : OutletId)].queue[(0 : Byte).toNat]? = some (entry 5 .pulsing) ∧
      belt.outlets[(6 : OutletId)].queue.length ≤ (1 : Byte).toNat ∧ (entry 5 .pulsing).phase = .pulsing ∧
      (entry 5 (.awaiting 3)).phase = .awaiting 3) ∧
    (47 < (48 : Byte).toNat ∧ 10 < (11 : Byte).toNat ∧ (47 : Byte).toNat ≤ 47 ∧
      belt.track.records[(0 : Byte).toNat]? = some (record 6 .waiting) ∧ belt.track.records.length ≤ (1 : Byte).toNat) ∧
    (6 < (7 : Byte).toNat ∧
      belt.admission.entries[(0 : Byte).toNat]? = some { capture := 1, leading := 0, trailing := none, record := none } ∧
      belt.admission.entries.length ≤ (1 : Byte).toNat) ∧
    ((6 : Byte).toNat = (6 : StationId).val ∧ (10 : Byte).toNat = (10 : Fin 11).val ∧
      (6 : Byte) = numberByte (5 : Fin 6) ∧ 1 < (2 : Byte).toNat ∧ ∀ c : Fin 6, (7 : Byte) ≠ numberByte c) :=
  ⟨⟨asked_ask _ _ _ (by decide), asked_ask _ _ _ (by decide), asked_ask _ _ _ (by decide), asked_ask _ _ _ (by decide),
    asked_ask _ _ _ (by decide)⟩, by decide⟩

end Sys2Proof.Tests
end

section
/-! SUPPORT. The bids of the track while they are being settled: what stays true between the presentations, grants and
losses of one event, and that each operation of the diversion machinery keeps it (R45, R47 to R51, R79, R83). -/

namespace Sys2Proof.Machine

open Sys2Proof

/-! ## Records on the track -/

/-- A record that is REQUESTING at outlet `k`. -/
def TrackRecord.bidsAt (k : OutletId) (r : TrackRecord) : Prop := r.state = .requesting ∧ r.target = some k

/-- No REQUESTING record has an older one of its tag. -/
def BidsFirst (l : List TrackRecord) : Prop := l.Pairwise fun x y => y.state = .requesting → x.tag ≠ y.tag

theorem bidsFound_iff (s : State) : BidsFound s ↔ BidsFirst s.track.records := by
  unfold BidsFound BidsFirst
  constructor
  · intro h
    rw [List.pairwise_iff_getElem]
    intro i j hi hj hij hr
    have hs : s.track.records = s.track.records.take j ++ s.track.records[j] :: s.track.records.drop (j + 1) := by
      simp
    exact h _ _ _ hs hr _ (List.mem_take_iff_getElem.2 ⟨i, by omega, rfl⟩)
  · intro h front back r hs hr x hx
    rw [hs, List.pairwise_append] at h
    exact h.2.2 x hx r (by simp) hr

theorem BidsFirst.replace {front back : List TrackRecord} {r r' : TrackRecord} (h : BidsFirst (front ++ r :: back))
    (hf : ∀ x ∈ front, x.tag ≠ r.tag) (ht : r'.tag = r.tag) : BidsFirst (front ++ r' :: back) := by
  unfold BidsFirst at h ⊢
  simp only [List.pairwise_append, List.pairwise_cons, List.mem_cons, forall_eq_or_imp] at h ⊢
  obtain ⟨h1, ⟨h2, h3⟩, h4⟩ := h
  exact ⟨h1, ⟨fun y hy => ht ▸ h2 y hy, h3⟩, fun x hx => ⟨fun _ => ht ▸ hf x hx, (h4 x hx).2⟩⟩

/-- The record of a tag, with the records before it, none of which has the tag, and those behind it. -/
theorem recordOf_split {tag : SequenceTag} {s : State} {r : TrackRecord} (h : recordOf tag s = some r) :
    r.tag = tag ∧ ∃ front back, s.track.records = front ++ r :: back ∧ ∀ x ∈ front, x.tag ≠ r.tag := by
  obtain ⟨ht, front, back, hs, hf⟩ := List.find?_eq_some_iff_append.1 h
  have ht' : r.tag = tag := by simpa using ht
  exact ⟨ht', front, back, hs, fun x hx => by simpa [ht'] using hf x hx⟩

/-- A REQUESTING record is the record of its tag. -/
theorem recordOf_of_requesting {s : State} (h : BidsFound s) {r : TrackRecord} (hr : r ∈ s.track.records)
    (hq : r.state = .requesting) : recordOf r.tag s = some r := by
  obtain ⟨front, back, hs⟩ := List.append_of_mem hr
  exact recordOf_append hs (h front back r hs hq)

theorem oldestRequesting_some {k : OutletId} {s : State} {r : TrackRecord} (h : oldestRequesting k s = some r) :
    r ∈ s.track.records ∧ r.bidsAt k :=
  ⟨List.mem_of_find?_eq_some h, by simpa [TrackRecord.bidsAt] using List.find?_some h⟩

theorem oldestRequesting_of_none {k : OutletId} {s : State} (h : NoneBidding k s) : oldestRequesting k s = none := by
  simpa [oldestRequesting, NoneBidding] using h

/-! ## Acceptance after a change -/

theorem accepting_congr {k : OutletId} {s t : State} (hs : t.sensing = s.sensing) (ho : t.outlets[k] = s.outlets[k]) :
    accepting k t = accepting k s := by
  simp only [accepting, filteredState, hs, ho]

theorem accepting_onOutlet_ne {j k : OutletId} (h : j ≠ k) (f : Outlet → Outlet) (s : State) :
    accepting j (s.onOutlet k f) = accepting j s :=
  accepting_congr rfl (by rw [State.onOutlet_get, if_neg h])

theorem accepting_onOutlet_self (k : OutletId) (f : Outlet → Outlet) (s : State) :
    accepting k (s.onOutlet k f) = acceptingWith (filteredState (.readyLine k) s) (f s.outlets[k]) := by
  rw [accepting, State.onOutlet_get, if_pos rfl]
  rfl

/-- The conditions of acceptance (R96). -/
theorem acceptingWith_iff (ready : Bool) (o : Outlet) : acceptingWith ready o = true ↔
    o.state = .opened ∧ o.masked = false ∧ o.queue.length < 4 ∧ (o.mode = .handoff → ready = true) := by
  cases hm : o.mode <;> simp [acceptingWith, hm, and_assoc]

/-- An outlet is accepting by its mode, its state, its mask and the length of its queue. -/
theorem acceptingWith_mono {ready : Bool} {o o' : Outlet} (hm : o'.mode = o.mode) (hs : o'.state = o.state)
    (hk : o'.masked = o.masked) (hq : o'.queue.length ≤ o.queue.length) (h : acceptingWith ready o = true) :
    acceptingWith ready o' = true := by
  rw [acceptingWith_iff] at h ⊢
  rw [hm, hs, hk]
  exact ⟨h.1, h.2.1, hq.trans_lt h.2.2.1, h.2.2.2⟩

theorem accepting_eq_false {k : OutletId} {s : State} (h : s.outlets[k].state ≠ .opened ∨ s.outlets[k].masked = true) :
    accepting k s = false := by
  rw [Bool.eq_false_iff, accepting, ne_eq, acceptingWith_iff]
  rintro ⟨ho, hk, -⟩
  exact h.elim (fun h => h ho) fun h => by rw [hk] at h; exact Bool.false_ne_true h

theorem queue_lt_of_accepting {k : OutletId} {s : State} (h : accepting k s = true) :
    s.outlets[k].queue.length < 4 := by
  exact ((acceptingWith_iff ..).1 h).2.2.1

/-! ## What a fallback makes of a record -/

@[simp] theorem fallbackRecord_tag (r : TrackRecord) (s : State) : (fallbackRecord r s).tag = r.tag := by
  unfold fallbackRecord
  split
  · rfl
  · split
    · rfl
    · dsimp only; split
      · rfl
      · rfl
      · split <;> rfl

/-- A record that bids after its fallback bids at an outlet that is accepting (R48, R49). -/
theorem accepting_of_fallback_bidsAt {r : TrackRecord} {s : State} {j : OutletId}
    (h : (fallbackRecord r s).bidsAt j) : accepting j s = true := by
  unfold fallbackRecord TrackRecord.bidsAt at h
  revert h
  split
  · simp [sentToResidue]
  · split
    · simp [sentToResidue]
    · dsimp only; split
      · simp [sentToResidue]
      · simp
      · split
        · rintro ⟨-, hj⟩; cases hj; assumption
        · simp [sentToResidue]

/-- A record that is REQUESTING after its fallback has a target. -/
theorem fallbackRecord_target {r : TrackRecord} {s : State} (h : (fallbackRecord r s).state = .requesting) :
    ∃ j, (fallbackRecord r s).target = some j := by
  unfold fallbackRecord at h ⊢
  revert h
  split
  · simp [sentToResidue]
  · split
    · simp [sentToResidue]
    · dsimp only; split
      · simp [sentToResidue]
      · simp
      · split <;> simp [sentToResidue]

/-! ## The invariant between the operations of one event -/

/-- What outlet `k` should present (R50, R79). -/
def presented (k : OutletId) (s : State) : Option SequenceTag :=
  if energised k s = true then none else (oldestRequesting k s).map (·.tag)

/-- The bids inside an event: the outlets in `late` have still to reconsider their request, and an outlet for which
`lost` gives tags has lost its acceptance, presents nothing, and has still to turn the bids of these tags away.
`strict` adds that every other bid is aimed at an accepting outlet and that the confirm queues keep their capacity. -/
structure BidsBut (strict : Prop) (late : Set OutletId) (lost : OutletId → Option (List SequenceTag)) (s : State) :
    Prop where
  found : BidsFound s
  spoken : ∀ (k : OutletId) tag, s.air.requests[k] = some tag →
    energised k s = false ∧ ∃ r ∈ s.track.records, r.tag = tag ∧ r.bidsAt k
  presents : ∀ k : OutletId, k ∉ late → s.air.requests[k] = presented k s
  losing : ∀ (k : OutletId) tags, lost k = some tags → accepting k s = false ∧ s.air.requests[k] = none ∧
    ∀ r ∈ s.track.records, r.bidsAt k → r.tag ∈ tags
  welcome : strict → ∀ r ∈ s.track.records, r.state = .requesting →
    ∃ k, r.target = some k ∧ (accepting k s = true ∨ lost k ≠ none)
  queues : strict → ∀ k : OutletId, s.outlets[k].queue.length ≤ 4

/-- No outlet is losing. -/
def noneLost : OutletId → Option (List SequenceTag) := fun _ => none

/-- What settles the bids at the end of each operation of an event. -/
def BidsKept (strict : Prop) : State → Prop := BidsBut strict ∅ noneLost

theorem presented_congr {k : OutletId} {s t : State} (hr : t.track.records = s.track.records)
    (hp : t.air.pulses = s.air.pulses) : presented k t = presented k s := by
  have he : energised k t = energised k s := by simp only [energised, hp]
  have ho : oldestRequesting k t = oldestRequesting k s := by simp only [oldestRequesting, hr]
  rw [presented, presented, he, ho]

theorem presented_of_energised {k : OutletId} {s : State} (h : energised k s = true) : presented k s = none :=
  if_pos h

theorem presented_of_off {k : OutletId} {s : State} (h : energised k s = false) :
    presented k s = (oldestRequesting k s).map (·.tag) := by simp [presented, h]

theorem spoken_of_presented {k : OutletId} {s : State} {tag : SequenceTag} (h : presented k s = some tag) :
    energised k s = false ∧ ∃ r ∈ s.track.records, r.tag = tag ∧ r.bidsAt k := by
  unfold presented at h
  split at h
  · simp at h
  · next he =>
    obtain ⟨r, hr, ht⟩ := Option.map_eq_some_iff.1 h
    exact ⟨by simpa using he, r, (oldestRequesting_some hr).1, ht, (oldestRequesting_some hr).2⟩

theorem bidsKept_iff_requestsSound (s : State) : BidsKept False s ↔ RequestsSound s := by
  constructor
  · intro h; exact ⟨h.found, fun k => h.presents k (by simp)⟩
  · intro h
    exact { found := h.1, spoken := fun k tag hk => spoken_of_presented ((h.2 k).symm.trans hk),
            presents := fun k _ => h.2 k, losing := by simp [noneLost], welcome := by simp, queues := by simp }

theorem bidsKept_iff_bidsSound (s : State) : BidsKept True s ↔ BidsSound s := by
  constructor
  · intro h
    exact ⟨⟨h.found, fun k => h.presents k (by simp)⟩, by simpa [noneLost] using h.welcome, h.queues trivial⟩
  · intro h
    exact { (bidsKept_iff_requestsSound s).2 h.1 with
            welcome := by simpa [noneLost] using h.2.1, queues := fun _ => h.2.2 }

/-- One request after a change of one. -/
theorem setRequest_get (k j : OutletId) (req : Option SequenceTag) (s : State) :
    (setRequest k req s).air.requests[j] = if j = k then req else s.air.requests[j] := by
  by_cases h : j = k
  · subst h; simp [setRequest]
  · have h' : k.val ≠ j.val := fun e => h (Fin.ext e.symm)
    simp [setRequest, h, h']

namespace BidsBut

variable {strict : Prop} {late late' : Set OutletId} {lost : OutletId → Option (List SequenceTag)} {s t : State}

theorem mono (h : BidsBut strict late lost s) (hl : late ⊆ late') : BidsBut strict late' lost s :=
  { h with presents := fun k hk => h.presents k fun hk' => hk (hl hk') }

theorem loosen (h : BidsBut strict late lost s) : BidsBut False late lost s :=
  { h with welcome := False.elim, queues := False.elim }

/-- Only the records, the requests, the pulses, the acceptance and the lengths of the queues matter. -/
theorem congr (h : BidsBut strict late lost s) (hr : t.track.records = s.track.records)
    (hq : t.air.requests = s.air.requests) (hp : t.air.pulses = s.air.pulses)
    (ha : ∀ k, accepting k t = accepting k s)
    (hl : ∀ k : OutletId, t.outlets[k].queue.length ≤ s.outlets[k].queue.length) : BidsBut strict late lost t where
  found := by simpa [BidsFound, hr] using h.found
  spoken := by simpa [energised, hr, hq, hp] using h.spoken
  presents k hk := by rw [presented_congr hr hp, hq]; exact h.presents k hk
  losing := by simpa [hr, hq, ha] using h.losing
  welcome := by simpa [hr, ha] using h.welcome
  queues hs k := (hl k).trans (h.queues hs k)

/-- An outlet whose request is what it should present is no longer late. -/
theorem settle {k : OutletId} (h : BidsBut strict (insert k late) lost s) (hk : s.air.requests[k] = presented k s) :
    BidsBut strict late lost s :=
  { h with
    presents := fun j hj => by
      by_cases hjk : j = k
      · subst hjk; exact hk
      · exact h.presents j (by simp [hjk, hj]) }

/-- A new request of outlet `k`, one that a bid stands behind, or none. -/
theorem setRequest {k : OutletId} {req : Option SequenceTag} (h : BidsBut strict late lost s)
    (hl : lost k = none ∨ req = none)
    (hs : ∀ tag, req = some tag → energised k s = false ∧ ∃ r ∈ s.track.records, r.tag = tag ∧ r.bidsAt k) :
    BidsBut strict (insert k late) lost (Machine.setRequest k req s) where
  found := h.found
  spoken j tag hj := by
    rw [setRequest_get] at hj
    split at hj
    · next e => subst e; exact hs tag hj
    · exact h.spoken j tag hj
  presents j hj := by
    simp only [Set.mem_insert_iff, not_or] at hj
    rw [setRequest_get, if_neg hj.1]
    exact h.presents j hj.2
  losing j tags hj := by
    obtain ⟨ha, hn, hb⟩ := h.losing j tags hj
    refine ⟨ha, ?_, hb⟩
    rw [setRequest_get]
    split
    · next e => subst e; simpa [hj] using hl
    · exact hn
  welcome := h.welcome
  queues := h.queues

/-- The reconsidering outlet is no longer late. -/
theorem reconsider {k : OutletId} (h : BidsBut strict late lost s) (hk : lost k = none) :
    BidsBut strict (late \ {k}) lost (Machine.reconsider k s).1 := by
  have hi : late ⊆ insert k (late \ {k}) := fun j hj => by by_cases e : j = k <;> simp [e, hj]
  have hj : insert k late ⊆ insert k (late \ {k}) := Set.insert_subset (by simp) hi
  unfold Machine.reconsider
  split
  · next he =>
    refine (h.mono hi).settle ?_
    rw [presented_of_energised he]
    cases hq : s.air.requests[k] with
    | none => rfl
    | some tag => simp [(h.spoken k tag hq).1] at he
  · next he =>
    have hoff : energised k s = false := by simpa using he
    split
    · next ho =>
      refine ((h.setRequest (.inr rfl) (by simp)).mono hj).settle ?_
      have hpres : presented k s = none := by simp [presented, ho]
      rw [setRequest_get, if_pos rfl]
      exact hpres.symm
    · next r ho =>
      have hpres : presented k s = some r.tag := by simp [presented, hoff, ho]
      split
      · next hr => exact (h.mono hi).settle (hr.trans hpres.symm)
      · refine ((h.setRequest (.inl hk) fun tag ht => spoken_of_presented (hpres.trans ht)).mono hj).settle ?_
        rw [setRequest_get, if_pos rfl]
        exact hpres.symm

end BidsBut
end Sys2Proof.Machine
end

section
namespace Sys2Proof.Machine

open Sys2Proof

/-! ## Changes of one record -/

/-- The oldest bid at an outlet is found among the other records, where a record is replaced by ones that do not bid
there, as the one replaced did not. -/
theorem find_bids_replaced {k : OutletId} {front mid back : List TrackRecord} {r : TrackRecord} (hr : ¬ r.bidsAt k)
    (hm : ∀ x ∈ mid, ¬ x.bidsAt k) :
    ((front ++ mid ++ back).find? fun x => x.state == .requesting && x.target == some k) =
      (front ++ r :: back).find? fun x => x.state == .requesting && x.target == some k := by
  have hm' : mid.find? (fun x => x.state == .requesting && x.target == some k) = none := by
    simpa [TrackRecord.bidsAt] using hm
  have hr' : (r.state == .requesting && r.target == some k) = false := by
    simpa [TrackRecord.bidsAt] using hr
  simp [List.find?_append, hm', hr']

/-- The state with the record `r` behind `front` replaced by the records `mid`. -/
def State.withRecords (l : List TrackRecord) (s : State) : State := s.onTrack fun t => { t with records := l }

theorem updateRecord_split {s : State} {front back : List TrackRecord} {r : TrackRecord} (f : TrackRecord → TrackRecord)
    (hs : s.track.records = front ++ r :: back) (hf : ∀ x ∈ front, x.tag ≠ r.tag) :
    updateRecord r.tag f s = s.withRecords (front ++ [f r] ++ back) := by
  simp [updateRecord, State.withRecords, State.onTrack, hs, changeFirst_append hf]

theorem removeRecord_split {s : State} {front back : List TrackRecord} {r : TrackRecord}
    (hs : s.track.records = front ++ r :: back) (hf : ∀ x ∈ front, x.tag ≠ r.tag) :
    removeRecord r.tag s = s.withRecords (front ++ [] ++ back) := by
  have h := removeRecord_append hs hf
  simp only [removeRecord, State.withRecords, State.onTrack] at h ⊢
  simp [h]

namespace BidsBut

variable {strict : Prop} {late late' : Set OutletId} {lost : OutletId → Option (List SequenceTag)} {s t : State}

/-- An outlet that is accepting has lost nothing. -/
theorem not_losing {k : OutletId} (h : BidsBut strict late lost s) (ha : accepting k s = true) : lost k = none := by
  cases hl : lost k with
  | none => rfl
  | some tags => simp [(h.losing k tags hl).1] at ha

/-- A record for which no request speaks is replaced, by one of its tag that bids only at an accepting outlet, or by
none: the outlets it bid at and bids at are late. -/
theorem replace {front back : List TrackRecord} {r : TrackRecord} {mid : Option TrackRecord}
    (h : BidsBut strict late lost s) (hs : s.track.records = front ++ r :: back) (hf : ∀ x ∈ front, x.tag ≠ r.tag)
    (hr : ∀ k : OutletId, r.bidsAt k → s.air.requests[k] ≠ some r.tag) (hm : ∀ r' ∈ mid, r'.tag = r.tag ∧
      (r'.state = .requesting → ∃ k, r'.target = some k) ∧ ∀ k, r'.bidsAt k → accepting k s = true) :
    BidsBut strict (late ∪ {k | r.bidsAt k ∨ ∃ r' ∈ mid, r'.bidsAt k}) lost
      (s.withRecords (front ++ mid.toList ++ back)) := by
  have hold : ∀ x, x ∈ front ++ mid.toList ++ back → x ∈ s.track.records ∨ x ∈ mid := by
    intro x hx
    simp only [hs, List.mem_append, List.mem_cons, Option.mem_toList, Option.mem_def] at hx ⊢
    tauto
  have hfirst : BidsFirst (front ++ mid.toList ++ back) := by
    have hb : BidsFirst (front ++ r :: back) := hs ▸ (bidsFound_iff s).1 h.found
    cases mid with
    | none => exact List.Pairwise.sublist (by simp) hb
    | some r' => simpa using hb.replace hf (hm r' rfl).1
  refine { found := (bidsFound_iff _).2 hfirst, spoken := ?_, presents := ?_, losing := ?_, welcome := ?_,
           queues := h.queues }
  · intro k tag hk
    obtain ⟨he, x, hx, ht, hb⟩ := h.spoken k tag hk
    refine ⟨he, x, ?_, ht, hb⟩
    have hxr : x ≠ r := by
      rintro rfl
      exact hr k hb (ht ▸ hk)
    show x ∈ front ++ mid.toList ++ back
    rw [hs] at hx
    simp only [List.mem_append, List.mem_cons, hxr, false_or] at hx ⊢
    tauto
  · intro k hk
    simp only [Set.mem_union, Set.mem_ofPred_eq, not_or, not_exists, not_and] at hk
    have hp := h.presents k hk.1
    have ho : oldestRequesting k (s.withRecords (front ++ mid.toList ++ back)) = oldestRequesting k s := by
      rw [oldestRequesting, oldestRequesting, hs]
      exact find_bids_replaced hk.2.1 (by simpa using hk.2.2)
    rw [presented, ho]
    exact hp
  · intro k tags hk
    obtain ⟨ha, hn, hb⟩ := h.losing k tags hk
    refine ⟨ha, hn, fun x hx hxk => ?_⟩
    rcases hold x hx with hx | hx
    · exact hb x hx hxk
    · have := (hm x hx).2.2 k hxk
      simp [ha] at this
  · intro hst x hx hq
    rcases hold x hx with hx | hx
    · exact h.welcome hst x hx hq
    · obtain ⟨k, hk⟩ := (hm x hx).2.1 hq
      exact ⟨k, hk, .inl ((hm x hx).2.2 k ⟨hq, hk⟩)⟩

/-- A request is withdrawn for a tag. -/
theorem withdraw (h : BidsBut strict late lost s) (k : OutletId) (tag : SequenceTag) :
    BidsBut strict (insert k late) lost (Machine.withdraw k tag s) := by
  unfold Machine.withdraw
  split
  · exact h.setRequest (.inr rfl) (by simp)
  · exact h.mono (Set.subset_insert k late)

theorem requests_withdraw (k : OutletId) (tag : SequenceTag) (s : State) :
    (Machine.withdraw k tag s).air.requests[k] ≠ some tag := by
  unfold Machine.withdraw
  split
  · rw [setRequest_get, if_pos rfl]; simp
  · assumption

end BidsBut

/-! ## Presentations at the end of a fallback -/

/-- A way of presenting settles the outlet that presents, if it has not lost its acceptance. -/
def Settles (pres : OutletId → State → State) : Prop :=
  ∀ ⦃strict : Prop⦄ ⦃late : Set OutletId⦄ ⦃lost : OutletId → Option (List SequenceTag)⦄ ⦃s : State⦄ (k : OutletId),
    BidsBut strict late lost s → lost k = none → BidsBut strict (late \ {k}) lost (pres k s)

theorem settles_presentQuietly : Settles presentQuietly := fun _ _ _ _ _ h hk => h.reconsider hk

theorem Settles.presentTarget {pres : OutletId → State → State} (hp : Settles pres) {strict : Prop}
    {late : Set OutletId} {lost : OutletId → Option (List SequenceTag)} {s : State} {r : TrackRecord}
    (h : BidsBut strict (late ∪ {k | r.bidsAt k}) lost s) (hl : ∀ k, r.bidsAt k → lost k = none) :
    BidsBut strict late lost (presentTarget pres r s) := by
  unfold Machine.presentTarget
  split
  · next k hq hk =>
    have hb : r.bidsAt k := ⟨hq, hk⟩
    refine (hp k h (hl k hb)).mono ?_
    rintro j ⟨hj | ⟨-, hj⟩, hjk⟩
    · exact hj
    · rw [hk, Option.some.injEq] at hj
      exact absurd hj.symm hjk
  · next hn =>
    refine h.mono (Set.union_subset (Set.Subset.refl _) fun k hk => absurd hk.2 (hn k hk.1))

/-! ## Losses of acceptance (R47) -/

namespace BidsBut

variable {strict : Prop} {late late' : Set OutletId} {lost : OutletId → Option (List SequenceTag)} {s t : State}

open Function (update)

/-- Fewer tags are left once no bid of the others stands. -/
theorem narrow {k : OutletId} {tags tags' : List SequenceTag} (h : BidsBut strict late (update lost k (some tags)) s)
    (ht : ∀ r ∈ s.track.records, r.bidsAt k → r.tag ∈ tags') :
    BidsBut strict late (update lost k (some tags')) s where
  found := h.found
  spoken := h.spoken
  presents := h.presents
  losing j l hj := by
    by_cases hjk : j = k
    · subst hjk
      obtain ⟨ha, hn, -⟩ := h.losing j tags (by simp)
      simp only [Function.update_self, Option.some.injEq] at hj
      exact ⟨ha, hn, hj ▸ ht⟩
    · exact h.losing j l (by simpa [hjk] using hj)
  welcome hs r hr hq := by
    obtain ⟨j, hj, hw⟩ := h.welcome hs r hr hq
    refine ⟨j, hj, hw.imp_right fun hl => ?_⟩
    by_cases hjk : j = k
    · subst hjk; simp
    · simpa [hjk] using hl
  queues := h.queues

/-- An outlet with no bid left to turn away is settled. -/
theorem regain {k : OutletId} (h : BidsBut strict (insert k late) (update lost k (some [])) s) (hk : lost k = none) :
    BidsBut strict late lost s := by
  obtain ⟨-, hn, hb⟩ := h.losing k [] (by simp)
  have hnb : NoneBidding k s := fun r hr hrk => by simpa using hb r hr hrk
  have hp : presented k s = none := by simp [presented, oldestRequesting_of_none hnb]
  refine { h.settle (hn.trans hp.symm) with losing := fun j l hj => ?_, welcome := fun hs r hr hq => ?_ }
  · have hjk : j ≠ k := by rintro rfl; simp [hk] at hj
    exact h.losing j l (by simpa [hjk] using hj)
  · obtain ⟨j, hj, hw⟩ := h.welcome hs r hr hq
    have hjk : j ≠ k := by rintro rfl; exact hnb r hr ⟨hq, hj⟩
    exact ⟨j, hj, by simpa [hjk] using hw⟩

/-- One record is turned away. -/
theorem turnAway {pres : OutletId → State → State} (hp : Settles pres) {k : OutletId} {tag : SequenceTag}
    {tags : List SequenceTag} (h : BidsBut strict (insert k late) (update lost k (some (tag :: tags))) s) :
    BidsBut strict (insert k late) (update lost k (some tags)) (turnAway pres k s tag) := by
  obtain ⟨ha, hn, hb⟩ := h.losing k _ (Function.update_self ..)
  -- a bid of another tag is among the tags left
  have hleft : ∀ x ∈ s.track.records, x.bidsAt k → x.tag ≠ tag → x.tag ∈ tags := fun x hx hxk ht => by
    simpa [ht] using hb x hx hxk
  unfold Machine.turnAway
  split
  · next hrec =>
    refine h.narrow fun x hx hxk => hleft x hx hxk ?_
    rintro rfl
    simp [recordOf_of_requesting h.found hx hxk.1] at hrec
  · next r hrec =>
    obtain ⟨ht, front, back, hs, hf⟩ := recordOf_split hrec
    subst ht
    split
    · next hrk =>
      have hw : Machine.withdraw k r.tag s = s := by simp [Machine.withdraw, hn]
      have hat : ∀ j, r.bidsAt j → j = k := fun j hj => Option.some.inj (hj.2.symm.trans hrk.2)
      have hrep := h.replace (mid := some (fallbackRecord r s)) hs hf (fun j hj => by rw [hat j hj, hn]; simp)
        (fun r' hr' => by
          cases hr'
          exact ⟨fallbackRecord_tag r s, fallbackRecord_target, fun j hj => accepting_of_fallback_bidsAt hj⟩)
      have hnew : recordOf r.tag (s.withRecords (front ++ [fallbackRecord r s] ++ back)) =
          some (fallbackRecord r s) := by
        have := recordOf_append (s := s.withRecords (front ++ [fallbackRecord r s] ++ back)) (front := front)
          (r := fallbackRecord r s) (back := back) (by simp [State.withRecords]) (by simpa using hf)
        simpa using this
      have hrep' := hrep.narrow (tags' := tags) fun x hx hxk => by
        have hxt : x.tag ≠ r.tag := by
          intro e
          have hx' := recordOf_of_requesting hrep.found hx hxk.1
          rw [e] at hx'
          rw [Option.some.inj (hx'.symm.trans hnew)] at hxk
          simp [accepting_of_fallback_bidsAt hxk] at ha
        simpa [hxt] using (hrep.losing k _ (Function.update_self ..)).2.2 x hx hxk
      dsimp only
      rw [hw, updateRecord_split _ hs hf]
      refine hp.presentTarget (hrep'.mono ?_) fun j hj => hrep'.not_losing (accepting_of_fallback_bidsAt hj)
      rintro j (hj | hj | ⟨r', hr', hj⟩)
      · exact .inl hj
      · exact .inl (.inl (hat j hj))
      · cases hr'; exact .inr hj
    · next hrk =>
      refine h.narrow fun x hx hxk => hleft x hx hxk fun ht => hrk ?_
      have := recordOf_of_requesting h.found hx hxk.1
      rw [ht, hrec] at this
      cases this
      exact hxk

end BidsBut
end Sys2Proof.Machine
end

section
namespace Sys2Proof.Machine

open Sys2Proof

namespace BidsBut

variable {strict : Prop} {late late' : Set OutletId} {lost : OutletId → Option (List SequenceTag)} {s t : State}

open Function (update)

theorem turnAways {pres : OutletId → State → State} (hp : Settles pres) {k : OutletId} {tags : List SequenceTag}
    (h : BidsBut strict (insert k late) (update lost k (some tags)) s) :
    BidsBut strict (insert k late) (update lost k (some [])) (tags.foldl (Machine.turnAway pres k) s) := by
  induction tags generalizing s with
  | nil => exact h
  | cons tag tags ih => exact ih (h.turnAway hp)

end BidsBut

/-- The tags of the bids at outlet `k`, the oldest first. -/
def bidTags (k : OutletId) (s : State) : List SequenceTag :=
  (s.track.records.filter fun r => r.state == .requesting && r.target == some k).map (·.tag)

theorem mem_bidTags {k : OutletId} {s : State} {r : TrackRecord} (hr : r ∈ s.track.records) (hk : r.bidsAt k) :
    r.tag ∈ bidTags k s :=
  List.mem_map_of_mem (List.mem_filter.2 ⟨hr, by simpa [TrackRecord.bidsAt] using hk⟩)

theorem head_bidTags (k : OutletId) (s : State) : (bidTags k s).head? = (oldestRequesting k s).map (·.tag) := by
  simp [bidTags, oldestRequesting, List.head?_filter]

theorem setRequest_self {k : OutletId} {req : Option SequenceTag} {s : State} (h : s.air.requests[k] = req) :
    setRequest k req s = s := by
  have hset : s.air.requests.set k req = s.air.requests := by
    apply Vector.ext
    intro i hi
    rw [Vector.getElem_set]
    split
    · next e => subst e; exact h.symm
    · rfl
  simp [setRequest, State.onAir, hset]

/-- The first record turned away is the one its outlet presents, so the request may as well be withdrawn before. -/
theorem lossOfAcceptance_eq (pres : OutletId → State → State) {k : OutletId} {s : State} (hf : BidsFound s)
    (hk : s.air.requests[k] = presented k s) :
    lossOfAcceptance pres k s = (bidTags k s).foldl (turnAway pres k) (setRequest k none s) := by
  show (bidTags k s).foldl (turnAway pres k) s = _
  cases hq : s.air.requests[k] with
  | none => rw [setRequest_self hq]
  | some tag =>
    have hoff : energised k s = false := (spoken_of_presented (hk.symm.trans hq)).1
    have hhead : (oldestRequesting k s).map (·.tag) = some tag := (presented_of_off hoff).symm.trans (hk.symm.trans hq)
    obtain ⟨rest, hrest⟩ := List.head?_eq_some_iff.1 ((head_bidTags k s).trans hhead)
    obtain ⟨r, ho, rfl⟩ := Option.map_eq_some_iff.1 hhead
    obtain ⟨hr, hrk⟩ := oldestRequesting_some ho
    have hrec : recordOf r.tag s = some r := recordOf_of_requesting hf hr hrk.1
    have hrec' : recordOf r.tag (setRequest k none s) = some r := hrec
    have hw : withdraw k r.tag s = setRequest k none s := if_pos hq
    have hw' : withdraw k r.tag (setRequest k none s) = setRequest k none s :=
      if_neg (by rw [setRequest_get, if_pos rfl]; simp)
    have hfirst : turnAway pres k s r.tag = turnAway pres k (setRequest k none s) r.tag := by
      unfold turnAway
      rw [hrec, hrec']
      simp only [TrackRecord.bidsAt] at hrk
      simp only [hrk, and_self, if_true, hw, hw']
      rfl
    rw [hrest, List.foldl_cons, List.foldl_cons, hfirst]

namespace BidsBut

variable {strict : Prop} {late late' : Set OutletId} {lost : OutletId → Option (List SequenceTag)} {s t : State}

open Function (update)

/-- The report of a loss of acceptance: where only bids at an outlet that was accepting before the event are aimed at
one that is not, every bid is aimed at an accepting outlet after it (R47, R96). -/
theorem reportLoss {pres : OutletId → State → State} (hp : Settles pres) {k : OutletId} {before : Bool}
    (h : BidsBut False late lost s) (hk : lost k = none) (hq : s.air.requests[k] = presented k s)
    (hw : strict → ∀ r ∈ s.track.records, r.state = .requesting →
      ∃ j, r.target = some j ∧ (accepting j s = true ∨ lost j ≠ none ∨ j = k ∧ before = true))
    (hl : strict → ∀ j : OutletId, s.outlets[j].queue.length ≤ 4) :
    BidsBut strict late lost (Machine.reportLoss pres k before s) := by
  unfold Machine.reportLoss
  split
  · next hb =>
    simp only [Bool.and_eq_true, Bool.not_eq_true'] at hb
    rw [lossOfAcceptance_eq pres h.found hq]
    have h1 := h.setRequest (k := k) (req := none) (.inr rfl) (by simp)
    have h2 : BidsBut strict (insert k late) (update lost k (some (bidTags k s))) (Machine.setRequest k none s) := by
      refine { h1 with losing := fun j tags hj => ?_, welcome := fun hs r hr hrq => ?_, queues := hl }
      · by_cases hjk : j = k
        · subst hjk
          rw [Function.update_self, Option.some.injEq] at hj
          exact ⟨hb.2, by rw [setRequest_get, if_pos rfl], fun r hr hrk => hj ▸ mem_bidTags hr hrk⟩
        · exact h1.losing j tags (by simpa [hjk] using hj)
      · obtain ⟨j, hj, ha⟩ := hw hs r hr hrq
        refine ⟨j, hj, ?_⟩
        rw [show accepting j (Machine.setRequest k none s) = accepting j s from rfl]
        by_cases hjk : j = k
        · subst hjk; simp
        · simpa [hjk] using ha
    exact (h2.turnAways hp).regain hk
  · next hb =>
    refine { h with welcome := fun hs r hr hrq => ?_, queues := hl }
    obtain ⟨j, hj, ha | ha | ⟨rfl, ha⟩⟩ := hw hs r hr hrq
    · exact ⟨j, hj, .inl ha⟩
    · exact ⟨j, hj, .inr ha⟩
    · exact ⟨j, hj, .inl (by simpa [ha] using hb)⟩

/-- The outlet of an energised diverter presents nothing, whatever stood in the set before. -/
theorem energise {k : OutletId} (h : BidsBut strict (insert k late) lost s) (hn : s.air.requests[k] = none)
    (p : Pulse) :
    BidsBut strict late lost (s.onAir fun a => { a with pulses := a.pulses.set k (some p) }) := by
  have hk : energised k (s.onAir fun a => { a with pulses := a.pulses.set k (some p) }) = true := by simp [energised]
  have hne : ∀ j : OutletId, j ≠ k →
      energised j (s.onAir fun a => { a with pulses := a.pulses.set k (some p) }) = energised j s := fun j hj => by
    have : k.val ≠ j.val := fun e => hj (Fin.ext e.symm)
    simp [energised, this]
  refine { h with spoken := fun j tag hj => ?_, presents := fun j hj => ?_ }
  · have hjk : j ≠ k := by rintro rfl; simp [hn] at hj
    rw [hne j hjk]
    exact h.spoken j tag hj
  · by_cases hjk : j = k
    · subst hjk
      rw [presented_of_energised hk]
      exact hn
    · rw [presented, hne j hjk]
      exact h.presents j (by simp [hjk, hj])

/-- A longer confirm queue can cost its outlet the acceptance, which `strict` is about; nothing else changes. -/
theorem appendEntry (h : BidsBut strict late lost s) (k : OutletId) (e : ConfirmEntry) :
    BidsBut False late lost (s.onOutlet k fun o => { o with queue := o.queue ++ [e] }) where
  found := h.found
  spoken := h.spoken
  presents := h.presents
  losing j tags hj := by
    obtain ⟨ha, hn, hb⟩ := h.losing j tags hj
    refine ⟨?_, hn, hb⟩
    by_cases hjk : j = k
    · subst hjk
      rw [accepting_onOutlet_self, Bool.eq_false_iff]
      rw [accepting, Bool.eq_false_iff] at ha
      exact fun ha' => ha (acceptingWith_mono (by rfl) (by rfl) (by rfl) (by simp) ha')
    · rw [accepting_onOutlet_ne hjk, ha]
  welcome := False.elim
  queues := False.elim

/-- Under `strict` an outlet that presents is accepting. -/
theorem accepting_of_request {k : OutletId} {tag : SequenceTag} (h : BidsBut strict late lost s) (hs : strict)
    (hq : s.air.requests[k] = some tag) : accepting k s = true := by
  obtain ⟨-, r, hr, -, hrk⟩ := h.spoken k tag hq
  obtain ⟨j, hj, ha⟩ := h.welcome hs r hr hrk.1
  obtain rfl : j = k := Option.some.inj (hj.symm.trans hrk.2)
  refine ha.resolve_right fun hl => ?_
  obtain ⟨tags, hl⟩ := Option.ne_none_iff_exists'.1 hl
  simp [(h.losing j tags hl).2.1] at hq

/-- The item of a request leaves the track and its diverter is energised. -/
theorem divert {k : OutletId} {r : TrackRecord} (h : BidsBut strict late lost s) (hr : r ∈ s.track.records)
    (hrk : r.bidsAt k) (p : PulseRecord) (q : Pulse) :
    BidsBut strict late lost (removeRecord r.tag (((Machine.setRequest k none s).onTiming k fun t =>
      { t with lastPulse := p }).onAir fun a => { a with pulses := a.pulses.set k (some q) })) := by
  have hn : (Machine.setRequest k none s).air.requests[k] = none := by rw [setRequest_get, if_pos rfl]
  have h1 : BidsBut strict (insert k late) lost (Machine.setRequest k none s) := h.setRequest (.inr rfl) (by simp)
  have h2 : BidsBut strict (insert k late) lost
      ((Machine.setRequest k none s).onTiming k fun t => { t with lastPulse := p }) :=
    h1.congr rfl rfl rfl (fun _ => rfl) (fun _ => le_rfl)
  have h3 := h2.energise (by exact hn) q
  obtain ⟨-, front, back, hs, hf⟩ := recordOf_split (recordOf_of_requesting h3.found hr hrk.1)
  have hat : ∀ j, r.bidsAt j → j = k := fun j hj => Option.some.inj (hj.2.symm.trans hrk.2)
  have h4 := h3.replace (mid := none) hs hf (fun j hj e => by
    rw [hat j hj] at e
    exact absurd (hn.symm.trans e) (by simp)) (by simp)
  rw [removeRecord_split hs hf]
  refine (h4.mono ?_).settle (k := k) ?_
  · rintro j (hj | hj | ⟨r', hr', -⟩)
    · exact .inr hj
    · exact .inl (hat j hj)
    · cases hr'
  · rw [presented_of_energised (by simp [energised, State.withRecords])]
    exact hn

/-- A grant. -/
theorem grant (h : BidsBut strict late lost s) (k : OutletId) : BidsBut strict late lost (Machine.grant k s) := by
  unfold Machine.grant
  split
  · exact h
  · next tag hq =>
    obtain ⟨hoff, r, hr, rfl, hrk⟩ := h.spoken k tag hq
    rw [recordOf_of_requesting h.found hr hrk.1]
    dsimp only
    have hlost : lost k = none := by
      cases hl : lost k with
      | none => rfl
      | some tags => simp [(h.losing k tags hl).2.1] at hq
    refine congr (s := Machine.reportLoss presentQuietly k (accepting k s) _) ?_ rfl rfl rfl (fun _ => rfl)
      (fun _ => le_rfl)
    generalize pulseOf _ _ _ _ _ = p
    have h1 := h.divert hr hrk p { tag := r.tag, pulseEnd := s.now + p.duration }
    refine (h1.appendEntry k _).reportLoss settles_presentQuietly hlost ?_ (fun hs x hx hxq => ?_) (fun hs j => ?_)
    · rw [presented_of_energised (by simp [energised, removeRecord])]
      exact (setRequest_get k k none s).trans (if_pos rfl)
    · obtain ⟨j, hj, ha⟩ := h1.welcome hs x hx hxq
      refine ⟨j, hj, ?_⟩
      by_cases hjk : j = k
      · exact .inr (.inr ⟨hjk, h.accepting_of_request hs hq⟩)
      · rw [accepting_onOutlet_ne hjk]
        exact ha.imp_right .inl
    · rw [State.onOutlet_get]
      split
      · next hjk =>
        subst hjk
        have hlt := queue_lt_of_accepting (h.accepting_of_request hs hq)
        rw [List.length_append]
        exact hlt
      · exact h1.queues hs j

theorem grantOne (h : BidsBut strict late lost s) : BidsBut strict late lost (Machine.grantOne s) := by
  unfold Machine.grantOne
  split
  · split
    · exact h
    · exact h.grant _
  · exact h

theorem examine (h : BidsBut strict late lost s) : BidsBut strict late lost (Machine.examine s) := h.grantOne.grantOne

end BidsBut

theorem settles_present : Settles present := by
  intro strict late lost s k h hk
  unfold present
  dsimp only
  split
  · exact (h.reconsider hk).examine
  · exact h.reconsider hk

/-! ## Window evaluation and retirement (R42 to R46, R53) -/

theorem withdraw_track (k : OutletId) (tag : SequenceTag) (s : State) : (withdraw k tag s).track = s.track := by
  unfold withdraw; split <;> rfl

theorem withdraw_outlets (k : OutletId) (tag : SequenceTag) (s : State) : (withdraw k tag s).outlets = s.outlets := by
  unfold withdraw; split <;> rfl

theorem accepting_withdraw (j k : OutletId) (tag : SequenceTag) (s : State) :
    accepting j (withdraw k tag s) = accepting j s := by
  unfold withdraw; split <;> rfl

theorem withdraw_of_ne {k : OutletId} {tag : SequenceTag} {s : State} (h : s.air.requests[k] ≠ some tag) :
    withdraw k tag s = s := if_neg h

section

variable {strict : Prop} {s : State}

/-- No request speaks for a record that is not REQUESTING. -/
theorem BidsKept.request_ne (h : BidsKept strict s) {r : TrackRecord} (hrec : recordOf r.tag s = some r)
    (hr : r.state ≠ .requesting) (k : OutletId) : s.air.requests[k] ≠ some r.tag := by
  intro hq
  obtain ⟨-, x, hx, ht, hxk⟩ := h.spoken k r.tag hq
  have := recordOf_of_requesting h.found hx hxk.1
  rw [ht, hrec] at this
  exact hr (Option.some.inj this ▸ hxk.1)

/-- A record that does not bid is replaced by one that bids at an accepting outlet at most; there the request has still
to be reconsidered. -/
theorem BidsKept.update (h : BidsKept strict s) {r : TrackRecord} (hrec : recordOf r.tag s = some r)
    (hr : r.state ≠ .requesting) {f : TrackRecord → TrackRecord} (ht : (f r).tag = r.tag)
    (hq : (f r).state = .requesting → ∃ k, (f r).target = some k) (ha : ∀ k, (f r).bidsAt k → accepting k s = true) :
    BidsBut strict {k | (f r).bidsAt k} noneLost (updateRecord r.tag f s) := by
  obtain ⟨-, front, back, hs, hf⟩ := recordOf_split hrec
  rw [updateRecord_split _ hs hf]
  refine (BidsBut.replace (mid := some (f r)) h hs hf (fun k hk => absurd hk.1 hr) (fun r' hr' => ?_)).mono ?_
  · cases hr'; exact ⟨ht, hq, ha⟩
  · rintro j (hj | hj | ⟨r', hr', hj⟩)
    · exact absurd hj (by simp)
    · exact absurd hj.1 hr
    · cases hr'; exact hj

/-- A record takes fallback in an evaluation. -/
theorem BidsKept.takeFallback (h : BidsKept strict s) {k : OutletId} {r : TrackRecord}
    (hrec : recordOf r.tag s = some r)
    (hk : r.target = some k) : BidsKept strict (takeFallback k r s) := by
  unfold Machine.takeFallback
  dsimp only
  by_cases hq : r.state = .requesting
  · obtain ⟨-, front, back, hs, hf⟩ := recordOf_split hrec
    have hat : ∀ j, r.bidsAt j → j = k := fun j hj => Option.some.inj (hj.2.symm.trans hk)
    have hs' : (withdraw k r.tag s).track.records = front ++ r :: back := by rw [withdraw_track, hs]
    have hrep := (h.withdraw k r.tag).replace (mid := some (fallbackRecord r s)) hs' hf
      (fun j hj => by rw [hat j hj]; exact BidsBut.requests_withdraw k r.tag s) (fun r' hr' => by
        cases hr'
        exact ⟨fallbackRecord_tag r s, fallbackRecord_target, fun j hj => by
          rw [accepting_withdraw]; exact accepting_of_fallback_bidsAt hj⟩)
    rw [updateRecord_split _ hs' hf, if_pos hq]
    refine settles_present.presentTarget ((settles_present k hrep rfl).mono ?_) fun _ _ => rfl
    rintro j ⟨(hj | hj) | hj | ⟨r', hr', hj⟩, hjk⟩
    · exact absurd hj hjk
    · exact absurd hj (by simp)
    · exact absurd (hat j hj) hjk
    · cases hr'; exact .inr hj
  · rw [if_neg hq, withdraw_of_ne (h.request_ne hrec hq k)]
    have hup := h.update hrec hq (f := fun _ => fallbackRecord r s) (fallbackRecord_tag r s) fallbackRecord_target
      fun j hj => accepting_of_fallback_bidsAt hj
    exact settles_present.presentTarget (hup.mono (by simp)) fun _ _ => rfl

/-- The evaluation of one record. -/
theorem BidsKept.evaluateRecord (h : BidsKept strict s) (tag : SequenceTag) :
    BidsKept strict (evaluateRecord s tag) := by
  unfold Machine.evaluateRecord
  split
  · exact h
  · next r hrec =>
    obtain rfl : r.tag = tag := (recordOf_split hrec).1
    split
    · exact h
    · next k hk =>
      split
      · exact h
      · exact h
      · next hw _ =>
        split
        · next ha =>
          have hup := h.update hrec (by simp [hw]) (f := fun r => { r with state := .requesting }) rfl
            (fun _ => ⟨k, hk⟩) (fun j hj => by rwa [← Option.some.inj (hk.symm.trans hj.2)])
          refine (settles_present k hup rfl).mono ?_
          rintro j ⟨hj, hjk⟩
          exact absurd (Option.some.inj (hj.2.symm.trans hk)) hjk
        · exact h.takeFallback hrec hk
      · exact h.takeFallback hrec hk
      · exact h.takeFallback hrec hk
      · exact h
      · exact h

theorem withdraw_air {k : OutletId} {tag : SequenceTag} {s t : State} (h : t.air = s.air) :
    (withdraw k tag t).air = (withdraw k tag s).air := by
  unfold withdraw
  rw [h]
  split
  · simp [setRequest, h]
  · exact h

/-- The retirement of the head. -/
theorem BidsKept.retireHead (h : BidsKept strict s) {r : TrackRecord} {rest : List TrackRecord}
    (hs : s.track.records = r :: rest) : BidsKept strict (retireHead r rest s) := by
  unfold Machine.retireHead
  extract_lets s1
  have hs1 : s1.track.records = rest := by simp only [s1, State.onTrack_track]; split <;> rfl
  split
  · next k hq hk =>
    have hat : ∀ j, r.bidsAt j → j = k := fun j hj => Option.some.inj (hj.2.symm.trans hk)
    have hrep := (h.withdraw k r.tag).replace (front := []) (mid := none) ((withdraw_track ..).symm ▸ hs) (by simp)
      (fun j hj => by rw [hat j hj]; exact BidsBut.requests_withdraw k r.tag s) (by simp)
    have hair : (withdraw k r.tag s1).air = (withdraw k r.tag s).air := withdraw_air rfl
    have h1 : BidsBut strict {k} noneLost (withdraw k r.tag s1) := by
      refine (hrep.mono ?_).congr ?_ (by rw [hair]; rfl) (by rw [hair]; rfl) (fun j => ?_) (fun j => ?_)
      · rintro j ((hj | hj) | hj | ⟨r', hr', -⟩)
        · exact hj
        · exact absurd hj (by simp)
        · exact hat j hj
        · cases hr'
      · rw [withdraw_track, hs1]; rfl
      · rw [accepting_withdraw]; exact (accepting_withdraw j k r.tag s).symm
      · rw [withdraw_outlets]; exact (congrArg (fun os => os[j].queue.length) (withdraw_outlets k r.tag s)).ge
    exact (settles_present k h1 rfl).mono (by simp)
  · next hn =>
    have hb : ∀ j, ¬ r.bidsAt j := fun j hj => hn j hj.1 hj.2
    have hrep := BidsBut.replace (front := []) (mid := none) h hs (by simp) (fun j hj => absurd hj (hb j)) (by simp)
    refine (hrep.mono ?_).congr hs1 rfl rfl (fun _ => rfl) fun _ => le_rfl
    simp [hb]

/-! ## Pulse ends and cuts (R85, R89) -/

/-- Outlet `k`'s diverter is de-energised: the outlet has still to reconsider its request. -/
theorem BidsKept.deEnergise (h : BidsKept strict s) (k : OutletId) :
    BidsBut strict {k} noneLost (deEnergise k s) := by
  have hne : ∀ j : OutletId, j ≠ k → energised j (Machine.deEnergise k s) = energised j s := fun j hj => by
    have : k.val ≠ j.val := fun e => hj (Fin.ext e.symm)
    simp [energised, Machine.deEnergise, this]
  have hk : energised k (Machine.deEnergise k s) = false := by simp [energised, Machine.deEnergise]
  refine { h with spoken := fun j tag hj => ?_, presents := fun j hj => ?_ }
  · refine ⟨?_, (h.spoken j tag hj).2⟩
    by_cases hjk : j = k
    · rw [hjk, hk]
    · rw [hne j hjk]; exact (h.spoken j tag hj).1
  · rw [presented, hne j hj]
    exact h.presents j (by simp)

/-- The wait for a confirmation changes the phase of entries alone. -/
theorem BidsBut.awaitConfirm {late : Set OutletId} {lost : OutletId → Option (List SequenceTag)}
    (h : BidsBut strict late lost s) (k : OutletId) (tag : SequenceTag) :
    BidsBut strict late lost (awaitConfirm k tag s) := by
  have hq : ∀ j : OutletId, (Machine.awaitConfirm k tag s).outlets[j].queue.length = s.outlets[j].queue.length := by
    intro j
    unfold Machine.awaitConfirm
    rw [State.onOutlet_get]
    split
    · exact List.length_map ..
    · rfl
  refine h.congr rfl rfl rfl (fun j => ?_) fun j => (hq j).le
  by_cases hj : j = k
  · subst hj
    unfold Machine.awaitConfirm
    rw [accepting_onOutlet_self, accepting]
    simp [acceptingWith]
  · exact accepting_onOutlet_ne hj _ s

/-- The end of a pulse. -/
theorem BidsKept.endPulse (h : BidsKept strict s) (k : OutletId) (tag : SequenceTag) :
    BidsKept strict (endPulse k tag s) :=
  (settles_present k ((h.deEnergise k).awaitConfirm k tag).examine rfl).mono (by simp)

/-- The cut of one pulse. -/
theorem BidsKept.cutPulse (h : BidsKept strict s) (k : OutletId) : BidsKept strict (cutPulse s k) := by
  unfold Machine.cutPulse
  split
  · exact h
  · refine (settles_presentQuietly k (BidsBut.awaitConfirm ?_ k _) rfl).mono (late := {k} \ {k}) (by simp)
    exact (h.deEnergise k).congr rfl rfl rfl (fun _ => rfl) fun _ => le_rfl

end

end Sys2Proof.Machine
end

section
/-! SUPPORT. What a command can do, said once: each command is a sequence of a few kinds of changes, so a property that
every kind keeps is kept by every command. -/

namespace Sys2Proof.Machine

open Sys2Proof

/-! ## The kinds of changes of a block -/

/-- A change of the Link Interface in the raising of a notice or the placing of a response (R173, R177). `books` leaves
its queues and notice sets. -/
inductive NoticeStep (l : Link) : Link → Prop
  | books (l' : Link) : l'.receiveQueue = l.receiveQueue → l'.transmitQueue = l.transmitQueue →
      l'.transmitting = l.transmitting → l'.stations = l.stations → NoticeStep l l'
  | enter (a : StationId) (n : Notice) :
      NoticeStep l { l with stations := l.stations.set a (enterNotice n l.stations[a]) }
  | place (f : CanFrame) : l.transmitQueue.length < 16 →
      NoticeStep l { l with transmitQueue := l.transmitQueue ++ [f] }

/-- A change of the Link Interface (R171, R173, R176 to R180). -/
inductive LinkStep (l : Link) : Link → Prop
  | notice {l' : Link} : NoticeStep l l' → LinkStep l l'
  | shrink (a : StationId) (st : StationLink) : st.notices <:+ l.stations[a].notices →
      LinkStep l { l with stations := l.stations.set a st }
  | receive (q : Request) : l.receiveQueue.length < 8 →
      LinkStep l { l with receiveQueue := l.receiveQueue ++ [q] }
  | take (q : Request) (rest : List Request) : l.receiveQueue = q :: rest → LinkStep l { l with receiveQueue := rest }
  | begin : l.transmitQueue ≠ [] → LinkStep l { l with transmitting := true }
  | sent : LinkStep l { l with transmitQueue := l.transmitQueue.tail, transmitting := false }
  | reset : LinkStep l l.initialized

/-- A change of the Admission Unit (R17, R23 to R26, R33, R34). `books` leaves the pending list, the capture counter and
the queued messages. -/
inductive AdmissionStep (a : Admission) : Admission → Prop
  | books (a' : Admission) : a'.entries = a.entries → a'.captureCounter = a.captureCounter →
      a'.captureQueue = a.captureQueue → AdmissionStep a a'
  | opened (leading : Position) : a.entries.length < 4 → AdmissionStep a
      { a with
        captureCounter := a.captureCounter + 1
        entries := a.entries ++
          [{ capture := a.captureCounter + 1, leading := leading, trailing := none, record := none }]
        captureQueue := a.captureQueue ++ [a.captureCounter + 1] }
  | removed (e : PendingEntry) (rest : List PendingEntry) : a.entries = e :: rest →
      AdmissionStep a { a with entries := rest, captureQueue := a.captureQueue.erase e.capture }
  | amended (es : List PendingEntry) : es.map (·.capture) = a.entries.map (·.capture) →
      AdmissionStep a { a with entries := es }
  | begun (n : CaptureNumber) (rest : List CaptureNumber) (message : Option (Byte × Byte)) :
      a.captureQueue = n :: rest → AdmissionStep a { a with captureQueue := rest, sending := message }
  | cleared (n : DeviceCount) : AdmissionStep a { a with entries := [], captureQueue := [], pendingAbandoned := n }

/-- A change of the Belt Sensing Unit but for the encoder's and the taking of an edge (R8, R11, R13). -/
inductive SensingStep (b : Sensing) : Sensing → Prop
  | closed (n : Nat) : SensingStep b
      { b with
        ring := ringWith b.intervalCount b.ring
        intervalCount := 0
        speed := speedOf (ringSum (ringWith b.intervalCount b.ring))
        intervalEnd := n }
  | reset (n : Nat) : SensingStep b (b.initialized n)
  | sampled (ge : Bool) (chutes crates readies : Vector Bool 12) : b.edges = [] →
      SensingStep b (sampleOutletInputs chutes crates readies (sampleGe ge b))

/-- A change of the encoder's quantities (R1, R2, R4, R7). -/
def OdometerStep (b b' : Sensing) : Prop :=
  b' = { b with
    previous := b'.previous
    position := b'.position
    debt := b'.debt
    encoderSkip := b'.encoderSkip
    intervalCount := b'.intervalCount } ∧
  b'.debt ≤ max b.debt 255 ∧ b'.intervalCount ≤ max b.intervalCount 65535

/-- A change of timing parameters and leads at a speed (R60 to R64, R71). -/
def TimingStep (speed : Nat) (ts ts' : Vector OutletTiming 12) : Prop :=
  ∀ k : OutletId, (ts'[k].latency = ts[k].latency ∨ ts'[k].latency ≤ 250) ∧
    (ts'[k].lead = ts[k].lead ∨ ts'[k].lead = 0 ∨ ts'[k].lead = leadOf ts'[k].latency speed)

/-- `before` is whether outlet `k` was accepting in an earlier state of the event, since when no record has changed. -/
def ReadBefore (P : State → Prop) (k : OutletId) (before : Bool) (s : State) : Prop :=
  ∃ s0, P s0 ∧ s0.track.records = s.track.records ∧ accepting k s0 = before

/-! ## Closed properties -/

/-- A property that the outputs, the notices and the cuts at the end of an event keep. -/
structure LineClosed (P : State → Prop) : Prop where
  notice {s : State} {l : Link} : NoticeStep s.link l → P s → P { s with link := l }
  line {s : State} (f : Line → Line) : P s → P (s.onLine f)
  ident {s : State} (level : Bool) : P s → P (s.onAdmission fun a => { a with identReady := level })
  cut {s : State} (k : OutletId) : P s → P (cutPulse s k)

/-- A property that the examination of the head, the classification pass and the retirements keep too. -/
structure BeltClosed (P : State → Prop) : Prop extends LineClosed P where
  admission {s : State} {a : Admission} : AdmissionStep s.admission a → P s → P { s with admission := a }
  append {s : State} {tr : Track} {r : TrackRecord} : s.track.records.length < 48 → r.state ≠ .requesting →
    tr.records = s.track.records ++ [r] → P s → P { s with track := tr }
  evaluate {s : State} (tag : SequenceTag) : P s → P (evaluateRecord s tag)
  retire {s : State} {r : TrackRecord} {rest : List TrackRecord} : s.track.records = r :: rest → P s →
    P (retireHead r rest s)
  balance {s : State} (c : Fin 6) (f : Balance → Balance) : P s → P (s.onBalance c f)

/-- A property that every kind of change keeps, but for power-on and the encoder's own. -/
structure Closed (P : State → Prop) : Prop extends BeltClosed P where
  link {s : State} {l : Link} : LinkStep s.link l → P s → P { s with link := l }
  books {s : State} (now : Nat) (geometry : Geometry) (routes : Vector RouteRow 7) (channels : Vector Channel 14)
    (draws : Nat) (pending : List Instr) : P s → P
      { s with now := now, geometry := geometry, routes := routes, channels := channels, draws := draws,
               pending := pending }
  sensing {s : State} {b : Sensing} : SensingStep s.sensing b → P s → P { s with sensing := b }
  timing {s : State} {ts : Vector OutletTiming 12} : TimingStep s.sensing.speed s.timing ts → P s →
    P { s with timing := ts }
  air {s : State} {a : Air} : a.requests = s.air.requests → a.pulses = s.air.pulses → P s → P { s with air := a }
  tally {s : State} {tr : Track} : tr.records = s.track.records → P s → P { s with track := tr }
  examine {s : State} : P s → P (examine s)
  endPulse {s : State} (k : OutletId) (tag : SequenceTag) : P s → P (endPulse k tag s)
  discard {s : State} : P s → P (discardItems s)
  maskAll {s : State} : s.track.records = [] → P s →
    P (s.onOutlets fun os => Vector.ofFn fun k => { os[k] with masked := true, consecutive := 0 })
  /-- An outlet that does not lose its acceptance. -/
  outlet {s : State} {k : OutletId} {f : Outlet → Outlet} :
    (f s.outlets[k]).queue.length ≤ s.outlets[k].queue.length →
    (accepting k s = true → accepting k (s.onOutlet k f) = true) → P s → P (s.onOutlet k f)
  /-- An outlet that may lose it, and reports the loss (R96). -/
  lose {s : State} {k : OutletId} {f : Outlet → Outlet} {l : Link} {before : Bool} :
    (f s.outlets[k]).queue.length ≤ s.outlets[k].queue.length → ReadBefore P k before s →
    Relation.ReflTransGen NoticeStep s.link l → P s → P (reportLoss present k before { s.onOutlet k f with link := l })
  /-- An edge whose taking costs no outlet its acceptance. -/
  edge {s s1 : State} {input : GateInput} {rising : Bool} {e : FilteredEdge} :
    takeEdge input rising s = some (e, s1) →
    (∀ k, input = .readyLine k → rising = true ∨ s.outlets[k].mode = .crate) → P s → P s1
  readyFall {s s1 : State} {k : OutletId} {e : FilteredEdge} : takeEdge (.readyLine k) false s = some (e, s1) →
    s.outlets[k].mode = .handoff → P s → P (fallReady k (accepting k s) s1)

variable {P : State → Prop} {s t : State}

/-! ## Notices, responses and the end of an event -/

theorem foldl_keeps {α : Type} {f : State → α → State} (hf : ∀ s a, P s → P (f s a)) :
    ∀ (l : List α) {s : State}, P s → P (l.foldl f s)
  | [], _, hs => hs
  | a :: l, _, hs => foldl_keeps hf l (hf _ a hs)

/-- A notice enters sets and places frames, and does nothing else. -/
theorem raiseNotice_keeps (hl : ∀ {s : State} {l : Link}, NoticeStep s.link l → P s → P { s with link := l })
    (n : Notice)
    (hs : P s) : P (raiseNotice n s) := by
  refine foldl_keeps (fun s a hs => ?_) _ hs
  unfold noticeTo
  split
  · have h1 : P (s.onStation a (enterNotice n)) := hl (.enter a n) hs
    unfold placeNoticeFrame
    split
    · next hf => exact hl (.place _ hf) h1
    · exact hl (.books _ rfl rfl rfl rfl) h1
  · exact hs

namespace LineClosed

variable (h : LineClosed P)
include h

theorem placeFrame (f : CanFrame) (hf : s.link.transmitQueue.length < 16) (hs : P s) : P (placeFrame f s) :=
  h.notice (.place f hf) hs

theorem respond (q : Request) (status : Status) (results : List Byte) (hf : s.link.transmitQueue.length < 16)
    (hs : P s) : P (respond q status results s) := h.placeFrame _ hf hs

theorem raiseNotice (n : Notice) (hs : P s) : P (raiseNotice n s) := raiseNotice_keeps h.notice n hs

theorem moveLine (new : LineState) (cause : LineCause) (hs : P s) : P (moveLine new cause s) :=
  h.raiseNotice _ (h.line _ hs)

theorem driveOutputs (hs : P s) : P (driveOutputs s) := h.ident _ (h.line _ hs)

theorem cutPulses (hs : P s) : P (cutPulses s) := foldl_keeps (fun _ k hs => h.cut k hs) _ hs

theorem haltLine (cause : LineCause) (hs : P s) : P (haltLine cause s) := by
  unfold Machine.haltLine
  split
  · exact h.moveLine _ _ hs
  · exact hs

theorem raiseReverse (hs : P s) : P (raiseReverse s) := by
  have h1 := h.raiseNotice (.fault s.sensing.debt s.line.state) hs
  unfold Machine.raiseReverse
  dsimp only
  split
  · exact h.cutPulses (h.haltLine _ h1)
  · exact h1

theorem settleLine (hs : P s) : P (settleLine s) := by
  unfold Machine.settleLine testDrain
  split
  · exact h.driveOutputs (h.cutPulses (h.moveLine _ _ hs))
  · exact h.driveOutputs hs

end LineClosed

/-! ## Admission, the classification pass and retirement -/

namespace BeltClosed

variable (h : BeltClosed P)
include h

/-- A change of counters of the Admission Unit. -/
theorem admissionBooks (f : Admission → Admission) (he : (f s.admission).entries = s.admission.entries)
    (hc : (f s.admission).captureCounter = s.admission.captureCounter)
    (hq : (f s.admission).captureQueue = s.admission.captureQueue) (hs : P s) : P (s.onAdmission f) :=
  h.admission (.books _ he hc hq) hs

theorem handOnOverflow (i : Nat) (n : DeviceCount) (hs : P s) : P (handOnOverflow i n s) := by
  unfold Machine.handOnOverflow overflowOccurrence
  split
  · split
    · exact h.raiseNotice _ (h.notice (.books _ rfl rfl rfl rfl) hs)
    · exact hs
  · exact hs

theorem changeAccount (c f : Fin 6) (g : Accumulator → Accumulator) (hs : P s) : P (changeAccount c f g s) := by
  unfold Machine.changeAccount noticeBalance
  dsimp only
  split
  · exact h.raiseNotice _ (h.balance c _ hs)
  · exact h.balance c _ hs

theorem returnItem (owner : StationId) (wareClass : WareClass) (hs : P s) : P (returnItem owner wareClass s) := by
  unfold Machine.returnItem
  split
  · exact h.changeAccount _ _ _ hs
  · exact hs

theorem admitItem (leading : Position) (footprint : Nat) (identity : Identity) (hf : s.track.records.length < 48)
    (hs : P s) : P (admitItem leading footprint identity s) := by
  have hr : (newRecord leading footprint identity s).state ≠ .requesting := by
    unfold newRecord
    dsimp only
    split <;> simp
  exact h.returnItem _ _ (h.evaluate _ (h.append hf hr rfl hs))

theorem admitEntry (e : PendingEntry) (hf : s.track.records.length < 48) (hs : P s) : P (admitEntry e s) := by
  unfold Machine.admitEntry
  extract_lets found s1
  have h1 : P s1 ∧ s1.track = s.track := by
    simp only [s1]
    split
    · exact ⟨hs, rfl⟩
    · exact ⟨h.admissionBooks _ rfl rfl rfl hs, rfl⟩
  split
  · exact h.admitItem _ _ _ (by simpa [h1.2] using hf) (h.admissionBooks _ rfl rfl rfl h1.1)
  · exact h.admitItem _ _ _ (by rwa [h1.2]) h1.1

theorem letGo {e : PendingEntry} {rest : List PendingEntry} (he : s.admission.entries = e :: rest) (hs : P s) :
    P (letGo e rest s) := by
  have h1 : P (removeEntry e rest s) := h.admission (.removed e rest he) hs
  unfold Machine.letGo
  dsimp only
  split
  · next hf => exact h.admitEntry e hf h1
  · exact h.handOnOverflow _ _ (h.admissionBooks _ rfl rfl rfl h1)

theorem examineHeads (n : Nat) (hs : P s) : P (examineHeads n s) := by
  induction n generalizing s with
  | zero => exact hs
  | succ n ih =>
    unfold Machine.examineHeads
    split
    · exact hs
    · next he =>
      split
      · exact ih (h.letGo he hs)
      · exact hs

theorem examineHead (hs : P s) : P (examineHead s) := by
  unfold Machine.examineHead
  split
  · exact h.examineHeads _ hs
  · exact hs

theorem discardHeads (n : Nat) (hs : P s) : P (discardHeads n s) := by
  induction n generalizing s with
  | zero => exact hs
  | succ n ih =>
    unfold Machine.discardHeads
    split
    · exact hs
    · next e rest he =>
      split
      · refine ih (h.admissionBooks _ rfl rfl rfl ?_)
        exact h.admission (.removed e rest he) hs
      · exact hs

theorem admissionAdvance (hs : P s) : P (admissionAdvance s) := by
  unfold Machine.admissionAdvance
  split
  · exact h.examineHeads _ hs
  · exact h.examineHeads _ hs
  · exact h.discardHeads _ hs
  · exact hs

theorem evaluateTrack (hs : P s) : P (evaluateTrack s) := foldl_keeps (fun _ tag hs => h.evaluate tag hs) _ hs

theorem retireHeads (n : Nat) (hs : P s) : P (retireHeads n s) := by
  induction n generalizing s with
  | zero => exact hs
  | succ n ih =>
    unfold Machine.retireHeads
    split
    · exact hs
    · next hr =>
      split
      · exact ih (h.retire hr hs)
      · exact hs

theorem trackAdvance (hs : P s) : P (trackAdvance s) := h.retireHeads _ (h.evaluateTrack hs)

end BeltClosed

end Sys2Proof.Machine
end

section
namespace Sys2Proof.Machine

open Sys2Proof

variable {P : State → Prop} {s t : State}

/-- The link with its transmission queue and stations changed by a notice. -/
theorem raiseNotice_onLink (n : Notice) (s : State) :
    ∃ l, Relation.ReflTransGen NoticeStep s.link l ∧ raiseNotice n s = { s with link := l } := by
  refine raiseNotice_keeps
    (P := fun t => ∃ l, Relation.ReflTransGen NoticeStep s.link l ∧ t = { s with link := l }) ?_ n
    ⟨s.link, .refl, rfl⟩
  rintro _ l hl ⟨l0, h0, rfl⟩
  exact ⟨l, h0.tail hl, rfl⟩

theorem readNow (k : OutletId) (hs : P s) : ReadBefore P k (accepting k s) s := ⟨s, hs, rfl, rfl⟩

theorem ReadBefore.of_records {k : OutletId} {before : Bool} (hb : ReadBefore P k before s)
    (hr : t.track.records = s.track.records) : ReadBefore P k before t := by
  obtain ⟨s0, h0, hr0, ha⟩ := hb
  exact ⟨s0, h0, hr0.trans hr.symm, ha⟩

theorem giveTrailing_captures (position : Position) (l : List PendingEntry) :
    (giveTrailing position l).map (·.capture) = l.map (·.capture) := by
  induction l with
  | nil => rfl
  | cons e rest ih =>
    unfold giveTrailing
    split
    · rw [List.map_cons, ih, List.map_cons]
    · split <;> rfl

theorem takeEdge_outlets {input : GateInput} {rising : Bool} {e : FilteredEdge} {s1 : State}
    (he : takeEdge input rising s = some (e, s1)) : s1.outlets = s.outlets := by
  unfold takeEdge at he
  split at he
  · simp at he
  · split at he
    · cases he; rfl
    · simp at he

namespace Closed

variable (h : Closed P)
include h

/-! ### Changes of one block -/

theorem onChannel (c : ChannelId) (f : Channel → Channel) (hs : P s) : P (s.onChannel c f) :=
  h.books _ _ _ _ _ _ hs

theorem onAir (f : Air → Air) (hr : (f s.air).requests = s.air.requests) (hp : (f s.air).pulses = s.air.pulses)
    (hs : P s) : P (s.onAir f) := h.air hr hp hs

theorem linkBooks (f : Link → Link) (hr : (f s.link).receiveQueue = s.link.receiveQueue)
    (hq : (f s.link).transmitQueue = s.link.transmitQueue) (ht : (f s.link).transmitting = s.link.transmitting)
    (hst : (f s.link).stations = s.link.stations) (hs : P s) : P (s.onLink f) := h.notice (.books _ hr hq ht hst) hs

theorem inEitherOrder {first second : State → State} (hf : ∀ {s}, P s → P (first s)) (hg : ∀ {s}, P s → P (second s))
    (hs : P s) : P (inEitherOrder first second s) := by
  have h1 : P (s.onDraws (· + 1)) := h.books _ _ _ _ _ _ hs
  unfold Machine.inEitherOrder inOrder
  split
  · exact hf (hg h1)
  · exact hg (hf h1)

/-- A change of an outlet's record that leaves its acceptance alone. -/
theorem outletBooks (k : OutletId) (f : Outlet → Outlet) (hm : (f s.outlets[k]).mode = s.outlets[k].mode)
    (hst : (f s.outlets[k]).state = s.outlets[k].state) (hk : (f s.outlets[k]).masked = s.outlets[k].masked)
    (hq : (f s.outlets[k]).queue = s.outlets[k].queue) (hs : P s) : P (s.onOutlet k f) := by
  refine h.outlet (by rw [hq]) (fun ha => ?_) hs
  rw [accepting_onOutlet_self]
  exact acceptingWith_mono hm hst hk (by rw [hq]) ha

/-- A change of an outlet that may cost it the acceptance, with no notice. -/
theorem outletLostSilently (k : OutletId) (f : Outlet → Outlet) {before : Bool}
    (hq : (f s.outlets[k]).queue = s.outlets[k].queue) (hb : ReadBefore P k before s) (hs : P s) :
    P (reportLoss present k before (s.onOutlet k f)) :=
  h.lose (f := f) (l := s.link) (by rw [hq]) hb .refl hs

/-- A change of an outlet that was not accepting. -/
theorem outletUnread (k : OutletId) (f : Outlet → Outlet) (hq : (f s.outlets[k]).queue = s.outlets[k].queue)
    (hb : ReadBefore P k false s) (hs : P s) : P (s.onOutlet k f) :=
  h.outletLostSilently k f hq hb hs

/-- A change of an outlet that may cost it the acceptance, with a notice before the report. -/
theorem outletLost (k : OutletId) (f : Outlet → Outlet) (n : Notice) {before : Bool}
    (hq : (f s.outlets[k]).queue = s.outlets[k].queue) (hb : ReadBefore P k before s) (hs : P s) :
    P (reportLoss present k before (raiseNotice n (s.onOutlet k f))) := by
  obtain ⟨l, hl, he⟩ := raiseNotice_onLink n (s.onOutlet k f)
  rw [he]
  exact h.lose (by rw [hq]) hb hl hs

/-! ### Crate states -/

theorem enterFull (k : OutletId) {before : Bool} (hb : ReadBefore P k before s) (hs : P s) :
    P (enterFull k before s) := h.outletLost k _ _ rfl hb hs

theorem enterJam (k : OutletId) {before : Bool} (hb : ReadBefore P k before s) (hs : P s) :
    P (enterJam k before s) := h.outletLost k _ _ rfl hb hs

/-- An outlet moves to OPEN. -/
theorem openOutlet (k : OutletId) (hs : P s) : P (s.onOutlet k fun o => { o with state := .opened }) := by
  refine h.outlet le_rfl (fun ha => ?_) hs
  rw [accepting_onOutlet_self, acceptingWith_iff]
  exact ⟨rfl, ((acceptingWith_iff ..).1 ha).2⟩

theorem openOrJam (k : OutletId) (hs : P s) : P (openOrJam k s) := by
  unfold Machine.openOrJam
  split
  · exact h.enterJam k (readNow k hs) hs
  · exact h.openOutlet k hs

theorem freshCrate (k : OutletId) (hs : P s) : P (freshCrate k s) :=
  h.openOrJam k (h.outletBooks k _ rfl rfl rfl rfl hs)

theorem takePlace (k : OutletId) {before : Bool} (hb : ReadBefore P k before s) (hs : P s) :
    P (takePlace k before s) := by
  have h1 : P (s.onOutlet k fun o => { o with currentCount := o.currentCount - 1 }) :=
    h.outletBooks k _ rfl rfl rfl rfl hs
  unfold Machine.takePlace
  dsimp only
  split
  · exact h.enterFull k (hb.of_records rfl) h1
  · exact h1

theorem crateEffect (k : OutletId) {before : Bool} (hb : ReadBefore P k before s) (hs : P s) :
    P (crateEffect k before s) := by
  unfold Machine.crateEffect
  dsimp only
  split
  · exact h.outletBooks k _ rfl rfl rfl rfl hs
  · split
    · exact h.outletBooks k _ rfl rfl rfl rfl hs
    · exact h.takePlace k hb hs

theorem strayEvent (k : OutletId) {before : Bool} (hb : ReadBefore P k before s) (hs : P s) :
    P (strayEvent k before s) := by
  have h1 : P (s.onOutlet k fun o => { o with stray := o.stray + 1 }) := h.outletBooks k _ rfl rfl rfl rfl hs
  unfold Machine.strayEvent
  dsimp only
  split
  · exact h.takePlace k (hb.of_records rfl) h1
  · exact h1

/-- A shorter confirm queue costs its outlet no acceptance. -/
theorem shortenQueue (k : OutletId) (f : Outlet → Outlet) (hm : (f s.outlets[k]).mode = s.outlets[k].mode)
    (hst : (f s.outlets[k]).state = s.outlets[k].state) (hk : (f s.outlets[k]).masked = s.outlets[k].masked)
    (hq : (f s.outlets[k]).queue.length ≤ s.outlets[k].queue.length) (hs : P s) : P (s.onOutlet k f) := by
  refine h.outlet hq (fun ha => ?_) hs
  rw [accepting_onOutlet_self]
  exact acceptingWith_mono hm hst hk hq ha

theorem confirmationEvent (k : OutletId) {before : Bool} (hb : ReadBefore P k before s) (hs : P s) :
    P (confirmationEvent k before s) := by
  unfold Machine.confirmationEvent
  dsimp only
  split
  · exact hs
  · split
    · exact h.strayEvent k hb hs
    · next e rest hq =>
      have h1 : P (removeSorted k rest s) := by
        refine h.tally rfl (h.shortenQueue k _ rfl rfl rfl ?_ hs)
        rw [hq]; simp
      split
      · exact h.crateEffect k (hb.of_records rfl) h1
      · exact h1

theorem timeoutHead (k : OutletId) (hs : P s) : P (timeoutHead k s) := by
  unfold Machine.timeoutHead
  extract_lets before jams s1
  have h1 : P s1 := h.tally rfl (h.shortenQueue k _ rfl rfl rfl (by simp) hs)
  split
  · exact h.enterJam k ((readNow k hs).of_records rfl) h1
  · exact h1

theorem removeCrate (k : OutletId) (hs : P s) : P (removeCrate k s) := by
  unfold Machine.removeCrate
  dsimp only
  split
  · exact h.driveOutputs (h.outletLostSilently k _ rfl (readNow k hs) hs)
  · exact hs

theorem placeCrate (k : OutletId) (hs : P s) : P (placeCrate k s) := by
  unfold Machine.placeCrate
  dsimp only
  split
  · next hw =>
    split
    · exact h.freshCrate k hs
    · refine h.outletUnread k _ rfl ?_ hs
      have := readNow k hs
      rwa [accepting_eq_false (.inl (by simp only [hw.2, ne_eq, reduceCtorEq, not_false_eq_true]))] at this
  · exact hs

/-! ### The edges of the gate inputs -/

theorem leadingEdge (position : Position) (hs : P s) : P (leadingEdge position s) := by
  unfold Machine.leadingEdge
  split
  · next hr => exact h.driveOutputs (h.admission (.opened position hr.2) hs)
  · exact h.handOnOverflow _ _ (h.admissionBooks _ rfl rfl rfl hs)

theorem trailingEdge (position : Position) (hs : P s) : P (trailingEdge position s) := by
  have h1 : P (s.onAdmission fun a => { a with entries := giveTrailing position a.entries }) :=
    h.admission (.amended _ (giveTrailing_captures position _)) hs
  unfold Machine.trailingEdge
  dsimp only
  split
  · exact h.settleLine (h.examineHead h1)
  · exact h1

theorem takeLeadingEdge (hs : P s) : P (takeLeadingEdge s) := by
  unfold Machine.takeLeadingEdge
  split
  · exact hs
  · next he => exact h.leadingEdge _ (h.edge he (by simp) hs)

theorem takeTrailingEdge (hs : P s) : P (takeTrailingEdge s) := by
  unfold Machine.takeTrailingEdge
  split
  · exact hs
  · next he => exact h.trailingEdge _ (h.edge he (by simp) hs)

theorem takeChuteRising (k : OutletId) (hs : P s) : P (takeChuteRising k s) := by
  unfold Machine.takeChuteRising
  split
  · exact hs
  · next he =>
    have h1 := h.edge he (by simp) hs
    split
    · exact h.settleLine (h.confirmationEvent k (readNow k h1) h1)
    · exact h1

theorem takeCrateFalling (k : OutletId) (hs : P s) : P (takeCrateFalling k s) := by
  unfold Machine.takeCrateFalling
  split
  · exact hs
  · next he => exact h.removeCrate k (h.edge he (by simp) hs)

theorem takeCrateRising (k : OutletId) (hs : P s) : P (takeCrateRising k s) := by
  unfold Machine.takeCrateRising
  split
  · exact hs
  · next he => exact h.placeCrate k (h.edge he (by simp) hs)

theorem takeReadyRising (k : OutletId) (hs : P s) : P (takeReadyRising k s) := by
  unfold Machine.takeReadyRising
  split
  · exact hs
  · next he => exact h.edge he (by simp) hs

theorem takeReadyFalling (k : OutletId) (hs : P s) : P (takeReadyFalling k s) := by
  unfold Machine.takeReadyFalling
  split
  · exact hs
  · next he =>
    split
    · next hm =>
      rw [takeEdge_outlets he] at hm
      exact h.edge he (fun j hj => by cases hj; exact .inr hm) hs
    · next hm =>
      rw [takeEdge_outlets he] at hm
      exact h.settleLine (h.readyFall he hm hs)

/-- The handing of the oldest edge; a chute gate's fall is taken by no block. -/
theorem handOldest (hs : P s) : P (handOldest s) := by
  unfold Machine.handOldest
  split
  · exact hs
  · next e rest he =>
    split
    · exact h.takeLeadingEdge hs
    · exact h.takeTrailingEdge hs
    · exact h.takeChuteRising _ hs
    · next k hi hr =>
      have ht := takeEdge_of_reports (s := s) (e := e) (others := rest) ⟨[], rest, he, by simp, rfl⟩
      exact h.edge ht (by simp [hi]) hs
    · exact h.takeCrateRising _ hs
    · exact h.takeCrateFalling _ hs
    · exact h.takeReadyRising _ hs
    · exact h.takeReadyFalling _ hs

theorem handEdges (n : Nat) (hs : P s) : P (handEdges n s) := by
  induction n generalizing s with
  | zero => exact hs
  | succ n ih => exact ih (h.handOldest hs)

theorem inputSample (ge : Bool) (chutes crates readies : Vector Bool 12) (hs : P s) :
    P (((Machine.handEdges s.sensing.edges.length s).onNow (· + 1)).onSensing
      fun b => sampleOutletInputs chutes crates readies (sampleGe ge b)) := by
  have hnone : (Machine.handEdges s.sensing.edges.length s).sensing.edges = [] := by
    rw [handEdges_sensing]; simp
  have h1 : P ((Machine.handEdges s.sensing.edges.length s).onNow (· + 1)) :=
    h.books _ _ _ _ _ _ (h.handEdges _ hs)
  exact h.sensing (.sampled ge chutes crates readies hnone) h1

/-! ### The Identity Port -/

theorem matchRecord (capture : CaptureNumber) (identity : Identity) (hs : P s) :
    P (matchRecord capture identity s) := by
  have h1 : P (attachRecord capture identity s) := by
    refine h.admission (.amended _ ?_) hs
    rw [List.map_map]
    refine List.map_congr_left fun e _ => ?_
    simp only [Function.comp_apply]
    split <;> rfl
  unfold Machine.matchRecord
  split
  · exact h.admissionBooks _ rfl rfl rfl hs
  · split
    · exact h.admissionBooks _ rfl rfl rfl hs
    · dsimp only
      split
      · exact h.settleLine (h.examineHead h1)
      · exact h1

theorem discardFrame (hs : P s) : P (discardFrame s) :=
  h.admissionBooks _ rfl rfl rfl (h.admissionBooks _ rfl rfl rfl hs)

theorem takeByte (value : Byte) (framingError : Bool) (hs : P s) : P (takeByte value framingError s) := by
  have hc : ∀ bytes, P (collect bytes s) := fun bytes => h.admissionBooks _ rfl rfl rfl hs
  unfold Machine.takeByte
  split
  · split
    · exact hc _
    · exact hs
  · split
    · exact h.discardFrame hs
    · split
      · exact hc _
      · have h1 : P (hunt s) := h.admissionBooks _ rfl rfl rfl hs
        unfold completeRecord
        split
        · exact h.admissionBooks _ rfl rfl rfl h1
        · exact h.matchRecord _ _ h1

/-! ### Channels -/

theorem copyDetected (c : ChannelId) (detected : Bool) (hs : P s) : P (copyDetected c detected s) := by
  unfold Machine.copyDetected
  split
  · exact h.line _ hs
  · split
    · exact h.line _ hs
    · exact hs

theorem handDetection (c : ChannelId) (hs : P s) : P (handDetection c s) := by
  have h1 := h.copyDetected c true hs
  unfold Machine.handDetection
  dsimp only
  split
  · split
    · exact h.enterFull _ (readNow _ h1) h1
    · exact h1
  · split
    · exact h.onAir _ rfl rfl h1
    · exact h1

theorem handRelease (c : ChannelId) (hs : P s) : P (handRelease c s) := by
  have h1 := h.copyDetected c false hs
  unfold Machine.handRelease
  dsimp only
  split
  · exact h.examine (h.onAir _ rfl rfl h1)
  · exact h1

theorem detection (c : ChannelId) (hs : P s) : P (detection c s) := by
  have h1 := h.onChannel c (fun ch => { ch with detectionCount := ch.detectionCount + 1 }) (h.handDetection c hs)
  unfold Machine.detection
  dsimp only
  split
  · exact h.raiseNotice _ h1
  · exact h.raiseNotice _ h1
  · exact h1
  · exact h1

theorem releaseVerdict (c : ChannelId) (hs : P s) : P (releaseVerdict c s) := by
  have h1 := h.handRelease c hs
  unfold Machine.releaseVerdict
  dsimp only
  split
  · exact h.raiseNotice _ h1
  · exact h.raiseNotice _ h1
  · exact h1
  · exact h1

theorem firstVerdict (c : ChannelId) (shown : Bool) (hs : P s) : P (firstVerdict c shown s) := by
  have h1 := h.onChannel c (fun ch => { ch with lastVerdict := verdictOf shown }) hs
  unfold Machine.firstVerdict
  dsimp only
  split
  · split
    · exact h.detection c (h.onChannel c _ h1)
    · exact h.onChannel c _ h1
  · exact h.raiseNotice _ (h.onChannel c _ h1)
  · split
    · exact h.raiseNotice _ (h.onChannel c _ h1)
    · exact h.onChannel c _ h1

theorem sampleFirst (c : ChannelId) (shown : Bool) (hs : P s) : P (sampleFirst c shown s) := by
  unfold Machine.sampleFirst
  dsimp only
  split
  · exact h.firstVerdict c _ hs
  · exact h.onChannel c _ hs

theorem sampleWatching (c : ChannelId) (shown : Bool) (hs : P s) : P (sampleWatching c shown s) := by
  unfold Machine.sampleWatching
  dsimp only
  split
  · exact h.onChannel c _ hs
  · split
    · exact h.onChannel c _ hs
    · split
      · exact h.detection c (h.onChannel c _ hs)
      · exact h.releaseVerdict c (h.onChannel c _ hs)

end Closed

end Sys2Proof.Machine
end

section
namespace Sys2Proof.Machine

open Sys2Proof

variable {P : State → Prop} {s t : State}

/-- A handler keeps a property when the response it places has its free place (R171). -/
def Handles (P : State → Prop) (handle : Request → State → State) : Prop :=
  ∀ (q : Request) (s : State), s.link.transmitQueue.length < 16 → P s → P (handle q s)

theorem cutPulse_track (s : State) (k : OutletId) : (cutPulse s k).track = s.track := by
  unfold cutPulse
  split
  · rfl
  · unfold presentQuietly reconsider
    split
    · rfl
    · split
      · rfl
      · split <;> rfl

theorem cutPulses_track (s : State) : (cutPulses s).track = s.track :=
  foldl_keeps (P := fun t => t.track = s.track) (fun t k ht => (cutPulse_track t k).trans ht) _ rfl

/-- A placement that passed its checks has its latency in range (R71). -/
theorem latency_of_placementValues {k : OutletId} {q : Request} {p : Placement} (hp : placementValues k q s = some p) :
    p.stage.latency ≤ 250 := by
  unfold placementValues at hp
  split at hp
  · dsimp only at hp
    split at hp
    · next hc =>
      cases hp
      have := hc.2.2.2.1
      simp only [timingInRange, Bool.and_eq_true, decide_eq_true_eq] at this
      exact this.1.1.1.1.1.1
    · cases hp
  · cases hp

theorem timingStep_writeTiming {k : OutletId} {p : Placement} (hl : p.stage.latency ≤ 250) :
    TimingStep s.sensing.speed s.timing (writeTiming k p s).timing := by
  intro j
  unfold writeTiming
  rw [State.onTiming_get]
  split
  · exact ⟨.inr hl, .inr (.inr rfl)⟩
  · exact ⟨.inl rfl, .inl rfl⟩

theorem timingStep_recomputeLeads (s : State) :
    TimingStep s.sensing.speed s.timing (recomputeLeads s).timing := by
  intro k
  simp only [recomputeLeads, State.onTimings_timing, Fin.getElem_fin, Vector.getElem_ofFn]
  split
  · exact ⟨.inl rfl, .inr (.inr rfl)⟩
  · exact ⟨.inl rfl, .inl rfl⟩

theorem keeps_next {u : State} (hu : P u) (hx : (.next u : Result) = .next t) : P t := Host.Outcome.next.inj hx ▸ hu

namespace LineClosed

variable (h : LineClosed P)
include h

/-- Frames placed one behind the other, with a free place for each. -/
theorem placeFrames (g : Notice → CanFrame) (l : List Notice) (hf : s.link.transmitQueue.length + l.length ≤ 16)
    (hs : P s) : P (l.foldl (fun s n => Machine.placeFrame (g n) s) s) := by
  induction l generalizing s with
  | nil => exact hs
  | cons n l ih =>
    rw [List.length_cons] at hf
    refine ih ?_ (h.placeFrame _ (by omega) hs)
    simp only [Machine.placeFrame, State.onLink_link, List.length_append, List.length_singleton]
    omega

end LineClosed

namespace Closed

variable (h : Closed P)
include h

/-- The oldest request leaves the receive queue, and the places it waited for are free. -/
theorem oldestRequest {isFor : Request → Bool} {places : Nat} {q : Request} {s1 : State} (hs : P s)
    (ho : oldestRequest isFor places s = some (q, s1)) (hp : 1 ≤ places) :
    P s1 ∧ s1.link.transmitQueue.length + places ≤ 16 := by
  unfold Machine.oldestRequest at ho
  split at ho
  · cases ho
  · next q' rest hq =>
    split at ho
    · next hc =>
      cases ho
      have hf := of_decide_eq_true (Bool.and_eq_true_iff.1 hc).2
      unfold freePlaces at hf
      exact ⟨h.link (.take q rest hq) hs, by simp only [State.onLink_link]; omega⟩
    · cases ho

/-- The taking of a request: the oldest leaves the receive queue, and then its handler runs (R171, R172). -/
theorem takeRequestWith {places code length : Nat} {linkOnly : Bool} {handle : Request → State → State}
    (hp : 1 ≤ places)
    (hh : ∀ (q : Request) (s : State), s.link.transmitQueue.length + places ≤ 16 → P s → P (handle q s)) (hs : P s) :
    P (takeRequestWith places code length linkOnly handle s) := by
  unfold Machine.takeRequestWith
  split
  · exact hs
  · next q s1 ho =>
    obtain ⟨h1, hf⟩ := h.oldestRequest hs ho hp
    split
    · exact h.respond _ _ _ (by omega) h1
    · split
      · exact h.respond _ _ _ (by omega) h1
      · exact hh q s1 hf h1

theorem takeRequest {code length : Nat} {linkOnly : Bool} {handle : Request → State → State}
    (hh : Handles P handle) (hs : P s) : P (takeRequest code length linkOnly handle s) :=
  h.takeRequestWith le_rfl (fun q s hf => hh q s (by omega)) hs

theorem unassigned (hs : P s) (hx : execUnassignedRequestCode s = .next t) : P t := by
  unfold execUnassignedRequestCode at hx
  split at hx
  · cases hx; exact hs
  · next ho =>
    obtain ⟨h1, hf⟩ := h.oldestRequest hs ho le_rfl
    cases hx
    exact h.respond _ _ _ (by omega) h1

theorem answerRead (f : Request → State → Option (List Byte)) : Handles P (answerRead f) := fun q s hf hs => by
  unfold Machine.answerRead
  split
  · exact h.respond _ _ _ hf hs
  · exact h.respond _ _ _ hf hs

/-! ### Requests to the line, the Air Arbiter and the geometry -/

theorem handleStart : Handles P handleStart := fun q s hf hs => by
  unfold Machine.handleStart
  split
  · exact h.driveOutputs (h.moveLine _ _ (h.respond _ _ _ hf hs))
  · exact h.respond _ _ _ hf hs

theorem handleDrain : Handles P handleDrain := fun q s hf hs => by
  unfold Machine.handleDrain
  split
  · exact h.settleLine (h.moveLine _ _ (h.respond _ _ _ hf hs))
  · exact h.respond _ _ _ hf hs

theorem handleStop : Handles P handleStop := fun q s hf hs => by
  unfold Machine.handleStop
  split
  · exact h.respond _ _ _ hf hs
  · exact h.driveOutputs (h.cutPulses (h.discard (h.moveLine _ _ (h.respond _ _ _ hf hs))))

theorem handleResume : Handles P handleResume := fun q s hf hs => by
  have hr := fun status => h.respond q status [] hf hs
  unfold Machine.handleResume
  split
  · split
    · exact h.settleLine (h.inEitherOrder (fun hs => h.examineHead hs) (fun hs => h.examine hs) (h.moveLine _ _ (hr _)))
    · exact hr _
  · exact hr _
  · exact hr _
  · exact hr _

theorem initializeBlocks (ht : s.track.records = []) (hs : P s) : P (initializeBlocks s) := by
  unfold Machine.initializeBlocks
  extract_lets s1 s2 s3 s4 s5 s6
  have h1 : P s1 := h.sensing (.reset s.now) hs
  have h2 : P s2 := h.admissionBooks _ rfl rfl rfl h1
  have h3 : P s3 := h.timing (fun k => by simp) h2
  have h4 : P s4 := h.onAir _ rfl rfl h3
  have h5 : P s5 := h.maskAll ht h4
  have h6 : P s6 := h.books _ _ _ _ _ _ h5
  exact h.link .reset h6

theorem handleInitialize : Handles P handleInitialize := fun q s _ hs => by
  unfold Machine.handleInitialize
  extract_lets s1 s2
  have hd : P (Machine.cutPulses (discardItems s1)) := h.cutPulses (h.discard (h.line _ hs))
  have h2 : P s2 := h.initializeBlocks (by rw [cutPulses_track]; rfl) hd
  have hf : s2.link.transmitQueue.length < 16 := by
    have : s2.link.transmitQueue.length ≤ 1 := by
      simp only [s2, Machine.initializeBlocks, State.onLink_link, Link.initialized]
      split <;> simp
    omega
  exact h.driveOutputs (h.raiseNotice _ (h.respond _ _ _ hf h2))

theorem handleSetGeometry : Handles P handleSetGeometry := fun q s hf hs => by
  have hr := fun status => h.respond q status [] hf hs
  unfold Machine.handleSetGeometry
  split
  · dsimp only
    split
    · exact h.driveOutputs (h.line _ (h.books _ _ _ _ _ _ (hr _)))
    · exact hr _
  · exact hr _

theorem handleSetSpeedCodes : Handles P handleSetSpeedCodes := fun q s hf hs => by
  have hr := fun status => h.respond q status [] hf hs
  unfold Machine.handleSetSpeedCodes
  dsimp only
  split
  · exact h.driveOutputs (h.line _ (hr _))
  · exact hr _

theorem handleSetAir : Handles P handleSetAir := fun q s hf hs => by
  have hr := fun status => h.respond q status [] hf hs
  unfold Machine.handleSetAir
  dsimp only
  split
  · exact hr _
  · split
    · next scheme _ _ =>
      have h1 : P (writeAir (q.byte 2) scheme (Machine.respond q .done [] s)) := h.onAir _ rfl rfl (hr _)
      split
      · exact h.settleLine (h.examine h1)
      · exact h1
    · exact hr _

/-! ### Requests to an outlet -/

theorem withOutlet {f : Request → OutletId → State → State}
    (hh : ∀ q k s, s.link.transmitQueue.length < 16 → P s → P (f q k s)) :
    Handles P fun q s => withOutlet q (f q) s := fun q s hf hs => by
  show P (Machine.withOutlet q (f q) s)
  unfold Machine.withOutlet
  split
  · exact h.respond _ _ _ hf hs
  · split
    · exact hh _ _ _ hf hs
    · exact h.respond _ _ _ hf hs

theorem handleMask : Handles P handleMask := h.withOutlet fun q k _ hf hs =>
  h.driveOutputs (h.outletLostSilently k _ rfl ((readNow k hs).of_records rfl) (h.respond q .done [] hf hs))

theorem handleUnmask : Handles P handleUnmask := h.withOutlet fun q k s hf hs => by
  refine h.outlet le_rfl (fun ha => ?_) (h.respond q .done [] hf hs)
  rw [accepting_onOutlet_self, acceptingWith_iff]
  obtain ⟨ho, -, hq⟩ := (acceptingWith_iff ..).1 ha
  exact ⟨ho, rfl, hq⟩

theorem handleSetCrate : Handles P handleSetCrate := h.withOutlet fun q k s hf hs => by
  have hr := fun status => h.respond q status [] hf hs
  dsimp only
  split
  · exact hr _
  · split
    · exact h.outletBooks k _ rfl rfl rfl rfl (hr _)
    · exact hr _

theorem handleReloadCrate : Handles P handleReloadCrate := h.withOutlet fun q k s hf hs => by
  dsimp only
  split
  · exact h.freshCrate k (h.respond _ _ _ hf hs)
  · exact h.respond _ _ _ hf hs

/-- An outlet that was not accepting takes its state by its mode. -/
theorem enterByMode (k : OutletId) (hb : ReadBefore P k false s) (hs : P s) : P (enterByMode k s) := by
  unfold Machine.enterByMode enterByCrate
  split
  · split
    · split
      · exact h.enterFull k hb hs
      · exact h.openOutlet k hs
    · exact h.outletUnread k _ rfl hb hs
  · exact h.openOutlet k hs

theorem handleClearJam : Handles P handleClearJam := h.withOutlet fun q k s hf hs => by
  have hr := fun status => h.respond q status [] hf hs
  split
  · next hj =>
    have hb := readNow k hs
    rw [accepting_eq_false (.inl (by rw [hj]; simp))] at hb
    exact h.enterByMode k (hb.of_records rfl) (h.outletBooks k _ rfl rfl rfl rfl (hr _))
  · exact hr _

/-! ### Placement -/

theorem handleSetPlaceTiming : Handles P handleSetPlaceTiming := fun q s hf hs => by
  have hr := fun status => h.respond q status [] hf hs
  unfold Machine.handleSetPlaceTiming
  split
  · exact hr _
  · exact h.linkBooks _ rfl rfl rfl rfl (hr _)

theorem enterPlaced (k : OutletId) (before : OutletState) (modeBefore : OutletMode) (hb : ReadBefore P k false s)
    (hs : P s) : P (enterPlaced k before modeBefore s) := by
  have hm : P (if s.outlets[k].mode = modeBefore then s
      else Machine.enterByMode k (s.onOutlet k fun o => { o with consecutive := 0 })) := by
    split
    · exact hs
    · exact h.enterByMode k (hb.of_records rfl) (h.outletBooks k _ rfl rfl rfl rfl hs)
  unfold Machine.enterPlaced
  split
  · exact hs
  · exact h.enterByMode k hb hs
  all_goals exact hm

theorem placeOutlet (k : OutletId) (p : Placement) (hl : p.stage.latency ≤ 250) (hb : ReadBefore P k false s)
    (hs : P s) : P (placeOutlet k p s) := by
  unfold Machine.placeOutlet
  extract_lets o s1 s2
  have ht : P (writeTiming k p s) := h.timing (timingStep_writeTiming hl) hs
  have h1 : P s1 := h.outletUnread k _ rfl (hb.of_records rfl) ht
  have h2 : P s2 ∧ s2.track = s.track := by
    simp only [s2]
    split
    · exact ⟨h1, rfl⟩
    · exact ⟨h.books _ _ _ _ _ _ h1, rfl⟩
  exact h.enterPlaced k _ _ (hb.of_records (by rw [← h2.2]; rfl)) (h.linkBooks _ rfl rfl rfl rfl h2.1)

theorem handleSetOutletPlace : Handles P handleSetOutletPlace := fun q s hf hs => by
  have hr := fun status => h.respond q status [] hf hs
  unfold Machine.handleSetOutletPlace
  split
  · exact hr _
  · next k _ =>
    split
    · exact hr _
    · split
      · exact hr _
      · next hps =>
        split
        · exact hr _
        · next p hp =>
          have hm : s.outlets[k].masked = true := by
            simp only [placementState, Bool.not_eq_true, Bool.not_eq_false', Bool.and_eq_true] at hps
            exact hps.1.1.1
          have hb := readNow k hs
          rw [accepting_eq_false (.inr hm)] at hb
          exact h.placeOutlet k p (latency_of_placementValues hp) (hb.of_records rfl) (hr _)

/-! ### Routes, channels and balances -/

theorem handleSetRoute : Handles P handleSetRoute := fun q s hf hs => by
  have hr := fun status bytes => h.respond q status bytes hf hs
  unfold Machine.handleSetRoute
  split
  · split
    · split
      · split
        · exact hr _ _
        · split
          · exact h.books _ _ _ _ _ _ (hr _ _)
          · exact hr _ _
      · exact hr _ _
    · exact hr _ _
  · exact hr _ _

theorem withChannel {f : Request → ChannelId → State → State}
    (hh : ∀ q c s, s.link.transmitQueue.length < 16 → P s → P (f q c s)) :
    Handles P fun q s => withChannel q (f q) s := fun q s hf hs => by
  show P (Machine.withChannel q (f q) s)
  unfold Machine.withChannel
  split
  · exact h.respond _ _ _ hf hs
  · split
    · exact hh _ _ _ hf hs
    · exact h.respond _ _ _ hf hs

theorem handleSetChannel : Handles P handleSetChannel := h.withChannel fun q c s hf hs => by
  have hr := fun status => h.respond q status [] hf hs
  split
  · split
    · split
      · exact h.onChannel c _ (hr _)
      · exact hr _
    · exact hr _
  · exact hr _

theorem handleEnableChannel : Handles P handleEnableChannel := h.withChannel fun q c s hf hs => by
  have hr := fun status => h.respond q status [] hf hs
  split
  · exact h.onChannel c _ (hr _)
  · exact hr _

theorem handleChannelOff : Handles P handleChannelOff := h.withChannel fun q c s hf hs => by
  have hr := h.respond q .done [] hf hs
  dsimp only
  split
  · exact h.driveOutputs (h.raiseNotice _ (h.handRelease c (h.onChannel c _ hr)))
  · exact h.onChannel c _ hr

theorem withAccount {allowed : Fin 6 → StationId → Bool} {f : Request → Fin 6 → Fin 6 → State → State}
    (hh : ∀ q c i s, s.link.transmitQueue.length < 16 → P s → P (f q c i s)) :
    Handles P fun q s => withAccount q allowed (f q) s := fun q s hf hs => by
  show P (Machine.withAccount q allowed (f q) s)
  unfold Machine.withAccount
  split
  · split
    · exact hh _ _ _ _ hf hs
    · exact h.respond _ _ _ hf hs
  · exact h.respond _ _ _ hf hs

theorem takeChange (q : Request) (c f : Fin 6) (g : Accumulator → Accumulator)
    (hf : s.link.transmitQueue.length < 16) (hs : P s) : P (takeChange q c f g s) :=
  h.changeAccount c f g (h.respond _ _ _ hf hs)

theorem handleIssue : Handles P handleIssue := h.withAccount fun q c f s hf hs => by
  dsimp only
  split
  · exact h.takeChange q c f _ hf hs
  · exact h.respond _ _ _ hf hs

theorem handleAdjust : Handles P handleAdjust := h.withAccount fun q c f s hf hs => by
  dsimp only
  split
  · exact h.takeChange q c f _ hf hs
  · exact h.respond _ _ _ hf hs

theorem handleSetValue : Handles P handleSetValue := h.withAccount fun q c f _ hf hs => h.takeChange q c f _ hf hs

theorem handleSetThreshold : Handles P handleSetThreshold := h.withAccount fun q c f s hf hs => by
  dsimp only
  split
  · exact h.takeChange q c f _ hf (h.balance c _ hs)
  · exact h.respond _ _ _ hf hs

theorem handleClearFlags : Handles P handleClearFlags := h.withAccount fun _ c _ _ hf hs =>
  h.balance c _ (h.respond _ _ _ hf hs)

theorem handleSetBalanceMode : Handles P handleSetBalanceMode := fun q s hf hs => by
  have hr := fun status bytes => h.respond q status bytes hf hs
  unfold Machine.handleSetBalanceMode
  split
  · exact hr _ _
  · split
    · split
      · exact hr _ _
      · exact h.balance _ _ (hr _ _)
    · exact hr _ _

/-! ### Masks and polls -/

theorem handleSetNoticeMask : Handles P handleSetNoticeMask := fun q _ hf hs =>
  h.link (.shrink q.station _ (List.suffix_refl _)) (h.respond q .done _ hf hs)

/-- A poll places a response and up to 2 frames, for which it waited. -/
theorem handlePollNotices (q : Request) (hf : s.link.transmitQueue.length + 3 ≤ 16) (hs : P s) :
    P (handlePollNotices q s) := by
  unfold Machine.handlePollNotices
  extract_lets st removed left s1 s2 s3
  have h1 : P s1 := h.link (.shrink q.station _ (List.drop_suffix 2 _)) hs
  have h2 : P s2 ∧ s2.link.transmitQueue.length ≤ 14 :=
    ⟨h.respond _ _ _ (by simp only [s1, State.onStation_link]; omega) h1, by
      simp only [s2, s1, Machine.respond, Machine.placeFrame, State.onLink_link, State.onStation_link,
        List.length_append, List.length_singleton]; omega⟩
  have h3 : P s3 := by
    have hn : removed.length ≤ 2 := List.length_take_le 2 _
    exact h.placeFrames _ removed (by omega) h2.1
  split
  · exact h.linkBooks _ rfl rfl rfl rfl h3
  · exact h3

/-! ### The commands -/

theorem execSpeedIntervalClose (hs : P s) (hx : Machine.execSpeedIntervalClose s = .next t) : P t := by
  unfold Machine.execSpeedIntervalClose at hx
  split at hx
  · cases hx
    have h1 : P (closeInterval s) := h.sensing (.closed (s.now + 32)) hs
    exact h.settleLine (h.evaluateTrack (h.timing (timingStep_recomputeLeads _) h1))
  · exact keeps_next hs hx

theorem execFrameTimerExpiry (hs : P s) (hx : Machine.execFrameTimerExpiry s = .next t) : P t := by
  unfold Machine.execFrameTimerExpiry at hx
  split at hx
  · exact keeps_next hs hx
  · split at hx
    · exact keeps_next (h.discardFrame hs) hx
    · exact keeps_next hs hx

theorem execCaptureMessageBegin (hs : P s) (hx : Machine.execCaptureMessageBegin s = .next t) : P t := by
  unfold Machine.execCaptureMessageBegin at hx
  split at hx
  · next n rest _ hq => exact keeps_next (h.admission (.begun n rest _ hq) hs) hx
  · exact keeps_next hs hx

theorem execPulseEnd (k : OutletId) (hs : P s) (hx : Machine.execPulseEnd k s = .next t) : P t := by
  unfold Machine.execPulseEnd at hx
  split at hx
  · exact keeps_next hs hx
  · split at hx
    · exact keeps_next (h.settleLine (h.endPulse k _ hs)) hx
    · exact keeps_next hs hx

theorem execConfirmTimeout (k : OutletId) (hs : P s) (hx : Machine.execConfirmTimeout k s = .next t) : P t := by
  unfold Machine.execConfirmTimeout at hx
  split at hx
  · exact keeps_next hs hx
  · split at hx
    · exact keeps_next (h.settleLine (h.timeoutHead k hs)) hx
    · exact keeps_next hs hx

theorem execSettleTimeExpiry (c : ChannelId) (hs : P s) (hx : Machine.execSettleTimeExpiry c s = .next t) : P t := by
  unfold Machine.execSettleTimeExpiry at hx
  split at hx
  · split at hx
    · exact keeps_next (h.onChannel c _ (h.onChannel c _ hs)) hx
    · exact keeps_next hs hx
  · exact keeps_next hs hx

theorem execChannelSample (c : ChannelId) (above : Bool) (hs : P s) (hx : Machine.execChannelSample c above s = .next t) :
    P t := by
  have h1 : P (scheduleSample c s) := h.onChannel c _ hs
  unfold Machine.execChannelSample at hx
  split at hx
  · exact keeps_next hs hx
  · split at hx
    · split at hx
      · exact keeps_next (h.driveOutputs (h.sampleFirst c _ h1)) hx
      · exact keeps_next (h.driveOutputs (h.sampleWatching c _ h1)) hx
      · exact keeps_next hs hx
      · exact keeps_next hs hx
    · exact keeps_next hs hx

theorem execFrameArrival (frame : CanFrame) (remote : Bool) (hs : P s)
    (hx : Machine.execFrameArrival frame remote s = .next t) : P t := by
  unfold Machine.execFrameArrival at hx
  split at hx
  · exact keeps_next hs hx
  · split at hx
    · exact keeps_next hs hx
    · cases hx
      unfold receiveRequest
      split
      · next hf => exact h.link (.receive _ hf) hs
      · exact h.linkBooks _ rfl rfl rfl rfl hs

theorem execFrameTransmitted (hs : P s) (hx : Machine.execFrameTransmitted s = .next t) : P t := by
  unfold Machine.execFrameTransmitted at hx
  split at hx
  · exact keeps_next (h.link .sent hs) hx
  · exact keeps_next hs hx

theorem execFrameTransmissionBegin (hs : P s) (hx : Machine.execFrameTransmissionBegin s = .next t) : P t := by
  unfold Machine.execFrameTransmissionBegin at hx
  split at hx
  · exact keeps_next hs hx
  · next hq => exact keeps_next (h.link (.begin (by simpa using hq)) hs) hx

/-- Every command but power-on and an encoder event keeps a closed property. -/
theorem exec {c : Instr} (hc : ∀ p e, c ≠ .powerOn p e) (he : ∀ p, c ≠ .encoderEvent p) (hs : P s)
    (hx : exec c s = .next t) : P t := by
  cases c with
  | powerOn p e => exact absurd rfl (hc p e)
  | encoderEvent p => exact absurd rfl (he p)
  | speedIntervalClose => exact h.execSpeedIntervalClose hs hx
  | geLeadingEdge => exact keeps_next (h.takeLeadingEdge hs) hx
  | geTrailingEdge => exact keeps_next (h.takeTrailingEdge hs) hx
  | chuteGateRising k => exact keeps_next (h.takeChuteRising k hs) hx
  | crateRemoved k => exact keeps_next (h.takeCrateFalling k hs) hx
  | cratePlaced k => exact keeps_next (h.takeCrateRising k hs) hx
  | readyLineRising k => exact keeps_next (h.takeReadyRising k hs) hx
  | readyLineFalling k => exact keeps_next (h.takeReadyFalling k hs) hx
  | receiveByte value framingError => exact keeps_next (h.takeByte value framingError hs) hx
  | frameTimerExpiry => exact h.execFrameTimerExpiry hs hx
  | captureMessageBegin => exact h.execCaptureMessageBegin hs hx
  | captureMessageSent => exact keeps_next (h.admissionBooks _ rfl rfl rfl hs) hx
  | pulseEnd k => exact h.execPulseEnd k hs hx
  | confirmTimeout k => exact h.execConfirmTimeout k hs hx
  | estopAssertion => exact keeps_next (h.driveOutputs (h.cutPulses (h.haltLine _ (h.line _ hs)))) hx
  | estopRelease => exact keeps_next (h.driveOutputs (h.line _ hs)) hx
  | settleTimeExpiry c => exact h.execSettleTimeExpiry c hs hx
  | channelSample c above => exact h.execChannelSample c above hs hx
  | frameArrival frame remote => exact h.execFrameArrival frame remote hs hx
  | frameTransmitted => exact h.execFrameTransmitted hs hx
  | unassignedRequestCode => exact h.unassigned hs hx
  | start => exact keeps_next (h.takeRequest h.handleStart hs) hx
  | drain => exact keeps_next (h.takeRequest h.handleDrain hs) hx
  | stop => exact keeps_next (h.takeRequest h.handleStop hs) hx
  | resume => exact keeps_next (h.takeRequest h.handleResume hs) hx
  | initializeLine => exact keeps_next (h.takeRequest h.handleInitialize hs) hx
  | setGeometry => exact keeps_next (h.takeRequest h.handleSetGeometry hs) hx
  | setSpeedCodes => exact keeps_next (h.takeRequest h.handleSetSpeedCodes hs) hx
  | setAir => exact keeps_next (h.takeRequest h.handleSetAir hs) hx
  | setPlaceTiming => exact keeps_next (h.takeRequest h.handleSetPlaceTiming hs) hx
  | setOutletPlace => exact keeps_next (h.takeRequest h.handleSetOutletPlace hs) hx
  | mask => exact keeps_next (h.takeRequest h.handleMask hs) hx
  | unmask => exact keeps_next (h.takeRequest h.handleUnmask hs) hx
  | setCrate => exact keeps_next (h.takeRequest h.handleSetCrate hs) hx
  | reloadCrate => exact keeps_next (h.takeRequest h.handleReloadCrate hs) hx
  | clearJam => exact keeps_next (h.takeRequest h.handleClearJam hs) hx
  | setRoute => exact keeps_next (h.takeRequest h.handleSetRoute hs) hx
  | setChannel => exact keeps_next (h.takeRequest h.handleSetChannel hs) hx
  | enableChannel => exact keeps_next (h.takeRequest h.handleEnableChannel hs) hx
  | channelOff => exact keeps_next (h.takeRequest h.handleChannelOff hs) hx
  | issue => exact keeps_next (h.takeRequest h.handleIssue hs) hx
  | adjust => exact keeps_next (h.takeRequest h.handleAdjust hs) hx
  | setValue => exact keeps_next (h.takeRequest h.handleSetValue hs) hx
  | setBalanceMode => exact keeps_next (h.takeRequest h.handleSetBalanceMode hs) hx
  | setThreshold => exact keeps_next (h.takeRequest h.handleSetThreshold hs) hx
  | clearFlags => exact keeps_next (h.takeRequest h.handleClearFlags hs) hx
  | readLine => exact keeps_next (h.takeRequest (h.answerRead _) hs) hx
  | readOutlet => exact keeps_next (h.takeRequest (h.answerRead _) hs) hx
  | readConfirmQueue => exact keeps_next (h.takeRequest (h.answerRead _) hs) hx
  | readTrackEntry => exact keeps_next (h.takeRequest (h.answerRead _) hs) hx
  | readPending => exact keeps_next (h.takeRequest (h.answerRead _) hs) hx
  | readRoute => exact keeps_next (h.takeRequest (h.answerRead _) hs) hx
  | readChannel => exact keeps_next (h.takeRequest (h.answerRead _) hs) hx
  | readBalance => exact keeps_next (h.takeRequest (h.answerRead _) hs) hx
  | readCounts => exact keeps_next (h.takeRequest (h.answerRead _) hs) hx
  | setNoticeMask => exact keeps_next (h.takeRequest h.handleSetNoticeMask hs) hx
  | pollNotices => exact keeps_next (h.takeRequestWith (by decide) (fun q _ hf hs => h.handlePollNotices q hf hs) hs) hx
  | inputSample ge chutes crates readies => exact keeps_next (h.inputSample ge chutes crates readies hs) hx
  | frameTransmissionBegin => exact h.execFrameTransmissionBegin hs hx

end Closed

end Sys2Proof.Machine
end

section
namespace Sys2Proof.Machine

open Sys2Proof

variable {P : State → Prop} {s t : State}

/-! ## The encoder, power-on and the step -/

namespace Closed

variable (h : Closed P) (ho : ∀ {s : State} {b : Sensing}, OdometerStep s.sensing b → P s → P { s with sensing := b })
include h ho

/-- An encoder event keeps a closed property that the encoder's own changes keep. -/
theorem execEncoderEvent (p : Phases) (hs : P s) (hx : Machine.execEncoderEvent p s = .next t) : P t := by
  have h1 : P (takePhases p s) := ho ⟨rfl, le_max_left _ _, le_max_left _ _⟩ hs
  unfold Machine.execEncoderEvent at hx
  split at hx
  · exact keeps_next hs hx
  · refine keeps_next ?_ hx
    unfold forwardStep
    split
    · exact ho ⟨rfl, le_max_of_le_left (Nat.sub_le _ _), le_max_left _ _⟩ h1
    · have h2 : P (advancePosition (takePhases p s)) :=
        ho ⟨rfl, le_max_left _ _, le_max_of_le_right (Nat.min_le_right _ _)⟩ h1
      exact h.settleLine (h.inEitherOrder (fun hs => h.admissionAdvance hs) (fun hs => h.trackAdvance hs) h2)
  · refine keeps_next ?_ hx
    have h2 : P ((takePhases p s).onSensing fun b => { b with debt := min (b.debt + 1) 255 }) :=
      ho ⟨rfl, le_max_of_le_right (Nat.min_le_right _ _), le_max_left _ _⟩ h1
    unfold reverseStep
    dsimp only
    split
    · exact h.driveOutputs (h.raiseReverse h2)
    · exact h2
  · refine keeps_next ?_ hx
    exact ho ⟨rfl, le_max_left _ _, le_max_left _ _⟩ h1

/-- Every step keeps a closed property that power-on gives and the encoder keeps. -/
theorem step (hp : ∀ p e (s : State), P { State.powerOn p e with draws := s.draws, pending := s.pending }) (hs : P s)
    (hx : step s = .next t) : P t := by
  unfold Machine.step at hx
  split at hx
  · exact keeps_next hs hx
  · next c rest _ =>
    have h1 : P { s with pending := rest } := h.books _ _ _ _ _ _ hs
    by_cases hc : ∃ p e, c = .powerOn p e
    · obtain ⟨p, e, rfl⟩ := hc
      exact keeps_next (hp p e _) hx
    · by_cases he : ∃ p, c = .encoderEvent p
      · obtain ⟨p, rfl⟩ := he
        exact h.execEncoderEvent ho p h1 hx
      · exact h.exec (fun p e hc' => hc ⟨p, e, hc'⟩) (fun p he' => he ⟨p, he'⟩) h1 hx

end Closed

/-! ## No diversion lengthens the track -/

theorem foldl_records_le {α : Type} {f : State → α → State}
    (hf : ∀ s a, (f s a).track.records.length ≤ s.track.records.length) (l : List α) (s : State) :
    (l.foldl f s).track.records.length ≤ s.track.records.length :=
  foldl_keeps (P := fun t => t.track.records.length ≤ s.track.records.length) (fun t a ht => (hf t a).trans ht) l le_rfl

theorem reconsider_track (k : OutletId) (s : State) : (reconsider k s).1.track = s.track := by
  unfold reconsider
  split
  · rfl
  · split
    · rfl
    · split <;> rfl

theorem updateRecord_length (tag : SequenceTag) (f : TrackRecord → TrackRecord) (s : State) :
    (updateRecord tag f s).track.records.length = s.track.records.length := changeFirst_length ..

/-- A way of presenting that does not lengthen the track. -/
def Shortens (pres : OutletId → State → State) : Prop :=
  ∀ k s, (pres k s).track.records.length ≤ s.track.records.length

theorem shortens_presentQuietly : Shortens presentQuietly := fun k s =>
  (congrArg (·.records.length) (reconsider_track k s)).le

theorem Shortens.presentTarget {pres : OutletId → State → State} (hp : Shortens pres) (r : TrackRecord) (s : State) :
    (presentTarget pres r s).track.records.length ≤ s.track.records.length := by
  unfold Machine.presentTarget
  split
  · exact hp _ s
  · exact le_rfl

theorem Shortens.reportLoss {pres : OutletId → State → State} (hp : Shortens pres) (k : OutletId) (before : Bool)
    (s : State) : (reportLoss pres k before s).track.records.length ≤ s.track.records.length := by
  unfold Machine.reportLoss lossOfAcceptance
  split
  · refine foldl_records_le (fun s tag => ?_) _ s
    unfold turnAway
    split
    · exact le_rfl
    · split
      · refine (hp.presentTarget _ _).trans ?_
        rw [updateRecord_length, withdraw_track]
      · exact le_rfl
  · exact le_rfl

theorem grantOne_records_le (s : State) : (grantOne s).track.records.length ≤ s.track.records.length := by
  unfold grantOne
  split
  · split
    · exact le_rfl
    · unfold grant
      split
      · exact le_rfl
      · split
        · exact le_rfl
        · exact (shortens_presentQuietly.reportLoss _ _ _).trans (List.length_eraseP_le ..)
  · exact le_rfl

theorem examine_records_le (s : State) : (examine s).track.records.length ≤ s.track.records.length :=
  (grantOne_records_le _).trans (grantOne_records_le s)

theorem shortens_present : Shortens present := fun k s => by
  have hr := (congrArg (·.records.length) (reconsider_track k s)).le
  unfold present
  dsimp only
  split
  · exact (examine_records_le _).trans hr
  · exact hr

theorem takeFallback_records_le (k : OutletId) (r : TrackRecord) (s : State) :
    (takeFallback k r s).track.records.length ≤ s.track.records.length := by
  have hu : (updateRecord r.tag (fun _ => fallbackRecord r s) (withdraw k r.tag s)).track.records.length =
      s.track.records.length := by rw [updateRecord_length, withdraw_track]
  unfold takeFallback
  refine (shortens_present.presentTarget _ _).trans ?_
  split
  · exact (shortens_present k _).trans hu.le
  · exact hu.le

theorem evaluateRecord_records_le (s : State) (tag : SequenceTag) :
    (evaluateRecord s tag).track.records.length ≤ s.track.records.length := by
  unfold evaluateRecord
  split
  · exact le_rfl
  · split
    · exact le_rfl
    · split
      · exact le_rfl
      · exact le_rfl
      · split
        · exact (shortens_present _ _).trans (updateRecord_length ..).le
        · exact takeFallback_records_le _ _ s
      · exact takeFallback_records_le _ _ s
      · exact takeFallback_records_le _ _ s
      · exact le_rfl
      · exact le_rfl

/-- A confirmation event at a HANDOFF outlet: nothing, a stray, or the removal of the oldest entry (R99, R100). -/
theorem confirmationEvent_handoff {k : OutletId} (before : Bool) (hm : s.outlets[k].mode = .handoff) :
    (s.outlets[k].state = .unconfigured ∧ confirmationEvent k before s = s) ∨
    (s.outlets[k].state ≠ .unconfigured ∧ s.outlets[k].queue = [] ∧
      confirmationEvent k before s = s.onOutlet k fun o => { o with stray := o.stray + 1 }) ∨
    (s.outlets[k].state ≠ .unconfigured ∧ ∃ e rest, s.outlets[k].queue = e :: rest ∧
      confirmationEvent k before s = removeSorted k rest s) := by
  unfold confirmationEvent
  dsimp only
  split
  · next hu => exact .inl ⟨hu, rfl⟩
  · next hu =>
    split
    · next hq => exact .inr (.inl ⟨hu, hq, by simp only [strayEvent, hm, reduceCtorEq, false_and, if_false]⟩)
    · next e rest hq => exact .inr (.inr ⟨hu, e, rest, hq, by simp only [hm]⟩)

/-! ## Properties of the belt's measures, the pending list, the link and the length of the track -/

/-- A property that depends on belt sensing, the Admission Unit, the Link Interface, the number of records and the
latency and the lead of each outlet alone, and that their own changes keep. -/
structure FrameClosed (P : State → Prop) : Prop where
  link {s : State} {l : Link} : LinkStep s.link l → P s → P { s with link := l }
  admission {s : State} {a : Admission} : AdmissionStep s.admission a → P s → P { s with admission := a }
  sensing {s : State} {b : Sensing} : SensingStep s.sensing b → P s → P { s with sensing := b }
  edge {s : State} (e : FilteredEdge) :
    P s → P { s with sensing := { s.sensing with edges := s.sensing.edges.erase e } }
  timing {s : State} {ts : Vector OutletTiming 12} : TimingStep s.sensing.speed s.timing ts → P s →
    P { s with timing := ts }
  track {s : State} {tr : Track} : tr.records.length ≤ s.track.records.length ∨
      s.track.records.length < 48 ∧ tr.records.length = s.track.records.length + 1 → P s → P { s with track := tr }
  rest {s : State} (now : Nat) (geometry : Geometry) (air : Air) (outlets : Vector Outlet 12)
    (routes : Vector RouteRow 7) (channels : Vector Channel 14) (balances : Vector Balance 6) (line : Line)
    (draws : Nat) (pending : List Instr) : P s → P
      { s with now := now, geometry := geometry, air := air, outlets := outlets, routes := routes, channels := channels,
               balances := balances, line := line, draws := draws, pending := pending }

/-- A state within the frame of a diversion differs from the one before in four blocks. -/
theorem DiversionFrame.eq (h : DiversionFrame s t) :
    t = { s with track := t.track, timing := t.timing, air := t.air, outlets := t.outlets } := by
  obtain ⟨hn, hs, ha, -, -, hg, -, -, -, hr, hc, hb, hl, hk, hd, hp⟩ := h
  rw [← hn, ← hs, ← ha, ← hg, ← hr, ← hc, ← hb, ← hl, ← hk, ← hd, ← hp]

namespace FrameClosed

variable (h : FrameClosed P)
include h

theorem diversion (hd : DiversionFrame s t) (hl : t.track.records.length ≤ s.track.records.length) (hs : P s) :
    P t := by
  have ht : TimingStep s.sensing.speed s.timing t.timing := fun k => by
    rw [hd.timing k]
    exact ⟨.inl rfl, .inl rfl⟩
  rw [hd.eq]
  have h1 : P { s with track := t.track } := h.track (.inl hl) hs
  have h2 : P { s with track := t.track, timing := t.timing } := h.timing (s := { s with track := t.track }) ht h1
  exact h.rest _ _ t.air t.outlets _ _ _ _ _ _ h2

theorem onAir (f : Air → Air) (hs : P s) : P (s.onAir f) := h.rest _ _ _ _ _ _ _ _ _ _ hs

theorem onOutlet (k : OutletId) (f : Outlet → Outlet) (hs : P s) : P (s.onOutlet k f) :=
  h.rest _ _ _ _ _ _ _ _ _ _ hs

theorem takeEdge {input : GateInput} {rising : Bool} {e : FilteredEdge} {s1 : State} (hs : P s)
    (he : takeEdge input rising s = some (e, s1)) : P s1 := by
  unfold Machine.takeEdge at he
  split at he
  · cases he
  · split at he
    · cases he; exact h.edge e hs
    · cases he

theorem linkSteps {l : Link} (hl : Relation.ReflTransGen NoticeStep s.link l) (hs : P s) : P { s with link := l } := by
  induction hl with
  | refl => exact hs
  | @tail l l' _ hstep ih =>
    exact h.link (s := { s with link := l }) (.notice hstep) ih

theorem reportLoss (k : OutletId) (before : Bool) (hs : P s) : P (reportLoss present k before s) :=
  h.diversion (reportLoss_diversion present_diversion k before s) (shortens_present.reportLoss k before s) hs

theorem awaitConfirm (k : OutletId) (tag : SequenceTag) (hs : P s) : P (awaitConfirm k tag s) := h.onOutlet k _ hs

theorem closed : Closed P where
  link := h.link
  notice hn hs := h.link (.notice hn) hs
  line _ hs := h.rest _ _ _ _ _ _ _ _ _ _ hs
  ident _ hs := h.admission (.books _ rfl rfl rfl) hs
  cut k hs := by
    unfold cutPulse
    split
    · exact hs
    · refine h.diversion (presentQuietly_diversion k _) (shortens_presentQuietly k _) (h.awaitConfirm k _ ?_)
      exact h.onAir _ (h.onAir _ hs)
  admission := h.admission
  append hf _ hr hs := h.track (.inr ⟨hf, by rw [hr]; simp⟩) hs
  evaluate tag hs := h.diversion (evaluateRecord_diversion _ tag) (evaluateRecord_records_le _ tag) hs
  retire := by
    intro s r rest hr hs
    unfold retireHead
    extract_lets s1
    have h1 : P s1 := h.track (.inl (by rw [hr]; split <;> simp)) hs
    split
    · refine h.diversion ((withdraw_diversion _ r.tag s1).trans (present_diversion _ _)) ?_ h1
      exact (shortens_present _ _).trans (by rw [withdraw_track])
    · exact h1
  balance _ _ hs := h.rest _ _ _ _ _ _ _ _ _ _ hs
  books _ _ _ _ _ _ hs := h.rest _ _ _ _ _ _ _ _ _ _ hs
  sensing := h.sensing
  timing := h.timing
  air _ _ hs := h.rest _ _ _ _ _ _ _ _ _ _ hs
  tally hr hs := h.track (.inl (by rw [hr])) hs
  examine hs := h.diversion (examine_diversion _) (examine_records_le _) hs
  endPulse k tag hs := by
    refine h.diversion ((examine_diversion _).trans (present_diversion k _))
      ((shortens_present k _).trans (examine_records_le _)) (h.awaitConfirm k tag (h.onAir _ hs))
  discard := by
    intro s hs
    unfold discardItems
    extract_lets queued s1 s2 s3
    have h1 : P s1 := h.track (.inl (Nat.zero_le _)) hs
    have h2 : P s2 := h.rest _ _ _ _ _ _ _ _ _ _ h1
    have h3 : P s3 := h.admission (.cleared _) h2
    exact h.onAir _ h3
  maskAll _ hs := h.rest _ _ _ _ _ _ _ _ _ _ hs
  outlet _ _ hs := h.rest _ _ _ _ _ _ _ _ _ _ hs
  lose _ _ hl hs := h.reportLoss _ _ (h.onOutlet _ _ (h.linkSteps hl hs))
  edge he _ hs := h.takeEdge hs he
  readyFall := by
    intro s s1 k e he hm hs
    have h1 := h.takeEdge hs he
    have hm' : s1.outlets[k].mode = .handoff := by rw [takeEdge_outlets he]; exact hm
    refine h.reportLoss k _ ?_
    rcases confirmationEvent_handoff (accepting k s) hm' with ⟨-, hc⟩ | ⟨-, -, hc⟩ | ⟨-, e, rest, -, hc⟩
    · rwa [hc]
    · rw [hc]; exact h.onOutlet k _ h1
    · rw [hc]; exact h.track (.inl le_rfl) (h.onOutlet k _ h1)

end FrameClosed

end Sys2Proof.Machine
end

section
/-! SUPPORT. What a sample of the 37 inputs leaves: the filter record of each input and the edges it completes (R13 to
R15). -/

namespace Sys2Proof.Machine

open Sys2Proof

theorem completes_iff (raw : Bool) (r : FilterRecord) : completes raw r = true ↔ raw ≠ r.active ∧ r.run = 2 := by
  simp [completes]

/-- A record's level changes in a sample exactly when the sample completes a change (R13). -/
theorem filtered_active (raw : Bool) (r : FilterRecord) :
    (filtered raw r).active = if completes raw r = true then raw else r.active := by
  simp only [completes_iff, filtered]
  by_cases hr : raw = r.active
  · simp [hr]
  · by_cases h2 : r.run = 2 <;> simp [hr, h2]

/-- Where each input has at most one edge waiting, each edge is the oldest of its input. -/
theorem reports_of_mem {s : State} (hn : (s.sensing.edges.map (·.input)).Nodup) {e : FilteredEdge}
    (he : e ∈ s.sensing.edges) : ∃ others, s.reports e others := by
  obtain ⟨before, after, hs⟩ := List.append_of_mem he
  rw [hs, List.map_append, List.nodup_append] at hn
  exact ⟨before ++ after, before, after, hs, fun x hx hi => hn.2.2 _ (List.mem_map_of_mem hx) _ (by simp) hi, rfl⟩

/-- The raw level of each gate input in a sample. -/
def rawAt (ge : Bool) (chutes crates readies : Vector Bool 12) : GateInput → Bool
  | .ge => ge
  | .chuteGate k => chutes[k]
  | .crateSensor k => crates[k]
  | .readyLine k => readies[k]

/-- The position of the first sample of the run that a GE sample leaves (R14). -/
def runStart (raw : Bool) (b : Sensing) : Position :=
  if raw ≠ b.ge.active ∧ b.ge.run = 0 then b.position else b.geRunStart

/-- The position an edge of an input is reported with: GE's as R14 gives it, 0 for the others. -/
def edgePosition (raw : Bool) (b : Sensing) : GateInput → Position
  | .ge => gePosition raw (runStart raw b) b.geLeading
  | .chuteGate _ | .crateSensor _ | .readyLine _ => 0

section

variable (ge : Bool) (chutes crates readies : Vector Bool 12) (b : Sensing)

theorem sampleGe_eq : sampleGe ge b =
    { b with
      ge := filtered ge b.ge
      geRunStart := runStart ge b
      geLeading := if completes ge b.ge = true ∧ ge = true then runStart ge b else b.geLeading
      edges := b.edges ++ if completes ge b.ge = true then
        [{ input := .ge, rising := ge, position := edgePosition ge b .ge }] else [] } := by
  have hstart : (if (ge != b.ge.active && b.ge.run == 0) = true then b.position else b.geRunStart) = runStart ge b := by
    simp [runStart]
  unfold sampleGe
  simp only [hstart]
  by_cases hc : completes ge b.ge = true
  · cases ge <;> simp [hc, gePosition, edgePosition]
  · simp [hc]

/-- Belt sensing after a sample. -/
theorem sampled_eq : sampleOutletInputs chutes crates readies (sampleGe ge b) =
    { b with
      ge := filtered ge b.ge
      geRunStart := runStart ge b
      geLeading := if completes ge b.ge = true ∧ ge = true then runStart ge b else b.geLeading
      chuteGates := filterAll chutes b.chuteGates
      crateSensors := filterAll crates b.crateSensors
      readyLines := filterAll readies b.readyLines
      edges := (sampleOutletInputs chutes crates readies (sampleGe ge b)).edges } := by
  simp only [sampleOutletInputs, sampleGe_eq]

theorem sampled_chuteGates : (sampleOutletInputs chutes crates readies (sampleGe ge b)).chuteGates =
    filterAll chutes b.chuteGates := by rw [sampled_eq]

theorem sampled_crateSensors : (sampleOutletInputs chutes crates readies (sampleGe ge b)).crateSensors =
    filterAll crates b.crateSensors := by rw [sampled_eq]

theorem sampled_readyLines : (sampleOutletInputs chutes crates readies (sampleGe ge b)).readyLines =
    filterAll readies b.readyLines := by rw [sampled_eq]

theorem recordAt_sampled (input : GateInput) :
    recordAt input (sampleOutletInputs chutes crates readies (sampleGe ge b)) =
      filtered (rawAt ge chutes crates readies input) (recordAt input b) := by
  rw [sampled_eq]
  cases input <;> simp [recordAt, rawAt, filterAll]

theorem mem_completedEdges {input : OutletId → GateInput} {handed : Bool → Bool} {raws : Vector Bool 12}
    {records : Vector FilterRecord 12} {e : FilteredEdge} : e ∈ completedEdges input handed raws records ↔
      ∃ k : OutletId, completes raws[k] records[k] = true ∧ handed raws[k] = true ∧
        e = { input := input k, rising := raws[k], position := 0 } := by
  have hall : ∀ k : OutletId, k ∈ allOutlets := by decide
  simp only [completedEdges, List.mem_map, List.mem_filter, hall, true_and, Bool.and_eq_true, and_assoc, @eq_comm _ _ e]

/-- The edges a sample completes, with none waiting before it: those of the inputs that change, but for a chute gate's
fall (R13, R15). -/
theorem mem_sampled_edges {e : FilteredEdge} (hb : b.edges = []) :
    e ∈ (sampleOutletInputs chutes crates readies (sampleGe ge b)).edges ↔
      completes (rawAt ge chutes crates readies e.input) (recordAt e.input b) = true ∧
      (∀ k, e.input = .chuteGate k → e.rising = true) ∧ e.rising = rawAt ge chutes crates readies e.input ∧
      e.position = edgePosition ge b e.input := by
  simp only [sampleOutletInputs, sampleGe_eq, hb, List.nil_append, List.mem_append, mem_completedEdges]
  obtain ⟨input, rising, position⟩ := e
  cases input with
  | ge => simp [rawAt, recordAt, edgePosition]
  | chuteGate k =>
    simp [rawAt, recordAt, edgePosition]
    exact fun _ hr _ => hr.symm
  | crateSensor k => simp [rawAt, recordAt, edgePosition]
  | readyLine k => simp [rawAt, recordAt, edgePosition]

/-- The inputs of one kind whose edges are completed. -/
theorem input_of_mem_completedEdges {input : OutletId → GateInput} {handed : Bool → Bool} {raws : Vector Bool 12}
    {records : Vector FilterRecord 12} {i : GateInput}
    (h : i ∈ (completedEdges input handed raws records).map (·.input)) : ∃ k, i = input k := by
  obtain ⟨e, he, rfl⟩ := List.mem_map.1 h
  obtain ⟨k, -, -, rfl⟩ := mem_completedEdges.1 he
  exact ⟨k, rfl⟩

theorem nodup_completedEdges {input : OutletId → GateInput} (hi : Function.Injective input) (handed : Bool → Bool)
    (raws : Vector Bool 12) (records : Vector FilterRecord 12) :
    ((completedEdges input handed raws records).map (·.input)).Nodup := by
  have hall : allOutlets.Nodup := by decide
  rw [completedEdges, List.map_map]
  exact (hall.filter _).map hi

/-- A sample completes at most one edge of each input. -/
theorem nodup_sampled_edges (hb : b.edges = []) :
    ((sampleOutletInputs chutes crates readies (sampleGe ge b)).edges.map (·.input)).Nodup := by
  simp only [sampleOutletInputs, sampleGe_eq, hb, List.nil_append, List.map_append, List.nodup_append]
  have hge : ∀ i, i ∈ (if completes ge b.ge = true then
      [({ input := .ge, rising := ge, position := edgePosition ge b .ge } : FilteredEdge)] else []).map (·.input) →
      i = .ge := by
    intro i
    split <;> simp
  refine ⟨⟨⟨by split <;> simp, nodup_completedEdges (fun _ _ => GateInput.chuteGate.inj) .., ?_⟩,
    nodup_completedEdges (fun _ _ => GateInput.crateSensor.inj) .., ?_⟩,
    nodup_completedEdges (fun _ _ => GateInput.readyLine.inj) .., ?_⟩
  · intro i hi j hj
    obtain ⟨k, rfl⟩ := input_of_mem_completedEdges hj
    rw [hge i hi]
    simp
  · intro i hi j hj
    obtain ⟨k, rfl⟩ := input_of_mem_completedEdges hj
    rcases List.mem_append.1 hi with hi | hi
    · rw [hge i hi]; simp
    · obtain ⟨k', rfl⟩ := input_of_mem_completedEdges hi
      simp
  · intro i hi j hj
    obtain ⟨k, rfl⟩ := input_of_mem_completedEdges hj
    rcases List.mem_append.1 hi with hi | hi
    · rcases List.mem_append.1 hi with hi | hi
      · rw [hge i hi]; simp
      · obtain ⟨k', rfl⟩ := input_of_mem_completedEdges hi
        simp
    · obtain ⟨k', rfl⟩ := input_of_mem_completedEdges hi
      simp

/-- A sample changes no level that a block is handed both edges of: a completed edge waits for its receiver. -/
theorem filteredState_sampled {s : State} {input : GateInput} (hi : ∀ k, input ≠ .chuteGate k)
    (hs : s.sensing.edges = []) :
    filteredState input { s with sensing := sampleOutletInputs chutes crates readies (sampleGe ge s.sensing) } =
      filteredState input s := by
  rw [filteredState_of_none (s := s) (by simp [hs])]
  have hmem := fun e => mem_sampled_edges ge chutes crates readies s.sensing (e := e) hs
  by_cases hc : completes (rawAt ge chutes crates readies input) (recordAt input s.sensing) = true
  · have he := (hmem ⟨input, rawAt ge chutes crates readies input, edgePosition ge s.sensing input⟩).2
      ⟨hc, fun k hk => absurd hk (hi k), rfl, rfl⟩
    obtain ⟨others, hrep⟩ := reports_of_mem
      (s := { s with sensing := sampleOutletInputs chutes crates readies (sampleGe ge s.sensing) })
      (nodup_sampled_edges ge chutes crates readies s.sensing hs) he
    rw [filteredState_of_reports hrep]
    have hne := ((completes_iff ..).1 hc).1
    exact (Bool.eq_not.2 hne.symm).symm
  · rw [filteredState_of_none, recordAt_sampled, filtered_active, if_neg hc]
    rintro e he rfl
    exact hc ((hmem e).1 he).1

end

end Sys2Proof.Machine
end

section
namespace Sys2Proof.Machine

open Sys2Proof

/-! ## The edge that is taken -/

/-- An edge that is taken is the oldest of its input, of the direction asked for. -/
theorem takeEdge_some {input : GateInput} {rising : Bool} {s s1 : State} {e : FilteredEdge}
    (h : takeEdge input rising s = some (e, s1)) :
    e.input = input ∧ e.rising = rising ∧ ∃ others, s.reports e others ∧ s1 = s.withEdges others := by
  unfold takeEdge at h
  split at h
  · cases h
  · next e' hf =>
    split at h
    · next hr =>
      cases h
      obtain ⟨hi, before, after, hs, hb⟩ := List.find?_eq_some_iff_append.1 hf
      have hi' : e.input = input := by simpa using hi
      have hb' : ∀ x ∈ before, x.input ≠ e.input := fun x hx => by simpa [hi'] using hb x hx
      refine ⟨hi', hr, before ++ after, ⟨before, after, hs, hb', rfl⟩, ?_⟩
      simp only [State.onSensing, State.withEdges, hs, erase_reported hb']
    · cases h

section

variable {strict : Prop} {s t : State}

/-! ## The bids of a state -/

/-- A change that leaves the records, the requests and the pulses and costs no outlet its acceptance. -/
theorem BidsKept.congr (h : BidsKept strict s) (hr : t.track.records = s.track.records)
    (hq : t.air.requests = s.air.requests) (hp : t.air.pulses = s.air.pulses)
    (ha : ∀ k, accepting k s = true → accepting k t = true)
    (hl : ∀ k : OutletId, t.outlets[k].queue.length ≤ s.outlets[k].queue.length) : BidsKept strict t where
  found := by simpa only [BidsFound, hr] using h.found
  spoken := by simpa only [energised, hr, hq, hp] using h.spoken
  presents k hk := by rw [presented_congr hr hp, hq]; exact h.presents k hk
  losing := by simp [noneLost]
  welcome hs r hr' hrq := by
    rw [hr] at hr'
    obtain ⟨k, hk, hak⟩ := h.welcome hs r hr' hrq
    exact ⟨k, hk, hak.imp_left (ha k)⟩
  queues hs k := (hl k).trans (h.queues hs k)

/-- The report of a change of one outlet that may have cost it the acceptance. -/
theorem BidsKept.lost (h : BidsKept strict s) {k : OutletId} {before : Bool} (hr : t.track.records = s.track.records)
    (hq : t.air.requests = s.air.requests) (hp : t.air.pulses = s.air.pulses)
    (ha : ∀ j, j ≠ k → accepting j s = true → accepting j t = true)
    (hb : strict → ∀ r ∈ s.track.records, r.bidsAt k → before = true)
    (hl : ∀ j : OutletId, t.outlets[j].queue.length ≤ s.outlets[j].queue.length) :
    BidsKept strict (reportLoss present k before t) := by
  have h0 : BidsBut False ∅ noneLost t :=
    { found := by simpa only [BidsFound, hr] using h.found
      spoken := by simpa only [energised, hr, hq, hp] using h.spoken
      presents := fun k hk => by rw [presented_congr hr hp, hq]; exact h.presents k hk
      losing := by simp [noneLost]
      welcome := False.elim
      queues := False.elim }
  refine h0.reportLoss settles_present rfl (h0.presents k (by simp)) (fun hs r hr' hrq => ?_)
    fun hs j => (hl j).trans (h.queues hs j)
  rw [hr] at hr'
  obtain ⟨j, hj, haj⟩ := h.welcome hs r hr' hrq
  refine ⟨j, hj, ?_⟩
  by_cases hjk : j = k
  · exact .inr (.inr ⟨hjk, hb hs r hr' ⟨hrq, hjk ▸ hj⟩⟩)
  · exact haj.imp (ha j hjk) .inl

/-- Under `strict` each bid is at an accepting outlet. -/
theorem BidsKept.accepting_of_bid (h : BidsKept strict s) (hs : strict) {r : TrackRecord} (hr : r ∈ s.track.records)
    {k : OutletId} (hrk : r.bidsAt k) : accepting k s = true := by
  obtain ⟨j, hj, ha⟩ := h.welcome hs r hr hrk.1
  rw [← Option.some.inj (hj.symm.trans hrk.2)]
  simpa [noneLost] using ha

/-- A new record that does not bid joins the tail. -/
theorem BidsKept.append (h : BidsKept strict s) {tr : Track} {r : TrackRecord} (hr : r.state ≠ .requesting)
    (ht : tr.records = s.track.records ++ [r]) : BidsKept strict { s with track := tr } where
  found := by
    have hf := (bidsFound_iff s).1 h.found
    rw [bidsFound_iff, ht]
    exact List.pairwise_append.2 ⟨hf, by simp, fun x _ y hy hq => absurd hq (by simp_all)⟩
  spoken k tag hk := by
    obtain ⟨he, x, hx, hxk⟩ := h.spoken k tag hk
    exact ⟨he, x, by simp [ht, hx], hxk⟩
  presents k hk := by
    have ho : oldestRequesting k { s with track := tr } = oldestRequesting k s := by
      simp [oldestRequesting, ht, List.find?_append, hr]
    rw [presented, ho]
    exact h.presents k hk
  losing := by simp [noneLost]
  welcome hs x hx hq := by
    rw [ht, List.mem_append, List.mem_singleton] at hx
    rcases hx with hx | rfl
    · exact h.welcome hs x hx hq
    · exact absurd hq hr
  queues := h.queues

/-- With no record on the track and no request there is nothing to settle. -/
theorem bidsKept_of_empty (hr : s.track.records = []) (hq : ∀ k : OutletId, s.air.requests[k] = none)
    (hl : strict → ∀ k : OutletId, s.outlets[k].queue.length ≤ 4) : BidsKept strict s where
  found := by simp [BidsFound, hr]
  spoken k tag hk := by simp [hq k] at hk
  presents k _ := by rw [hq k]; simp [presented, oldestRequesting, hr]
  losing := by simp [noneLost]
  welcome := by simp [hr]
  queues := hl

/-- A sample changes no level that another block reads: a completed edge waits for its receiver. -/
theorem accepting_sampled {b : Sensing} (hb : SensingStep s.sensing b) (k : OutletId) :
    accepting k { s with sensing := b } = accepting k s := by
  cases hb with
  | closed n => rfl
  | reset n => rfl
  | sampled ge chutes crates readies hs =>
    rw [accepting, accepting, filteredState_sampled ge chutes crates readies (by simp) hs]

/-- The taking of an edge costs no outlet its acceptance, but for the fall of a HANDOFF outlet's ready line. -/
theorem accepting_of_takeEdge {s1 : State} {input : GateInput} {rising : Bool} {e : FilteredEdge}
    (he : takeEdge input rising s = some (e, s1)) {k : OutletId}
    (hk : input = .readyLine k → rising = true ∨ s.outlets[k].mode = .crate) (ha : accepting k s = true) :
    accepting k s1 = true := by
  obtain ⟨rfl, rfl, others, hrep, rfl⟩ := takeEdge_some he
  rw [accepting, acceptingWith_iff] at ha ⊢
  refine ⟨ha.1, ha.2.1, ha.2.2.1, fun hm => ?_⟩
  have hready := ha.2.2.2 hm
  by_cases hi : e.input = .readyLine k
  · rw [← hi, filteredState_of_reports hrep] at hready
    rcases hk hi with hr | hc
    · simp [hr] at hready
    · exact absurd (hc.symm.trans hm) (by simp)
  · rw [filteredState_withEdges hrep fun hi' => hi hi'.symm]
    exact hready

theorem bidsKept_closed (strict : Prop) : Closed (BidsKept strict) where
  notice _ h := h.congr rfl rfl rfl (fun _ ha => ha) fun _ => le_rfl
  link _ h := h.congr rfl rfl rfl (fun _ ha => ha) fun _ => le_rfl
  line _ h := h.congr rfl rfl rfl (fun _ ha => ha) fun _ => le_rfl
  ident _ h := h.congr rfl rfl rfl (fun _ ha => ha) fun _ => le_rfl
  cut k h := h.cutPulse k
  admission _ h := h.congr rfl rfl rfl (fun _ ha => ha) fun _ => le_rfl
  append _ hr ht h := h.append hr ht
  evaluate tag h := h.evaluateRecord tag
  retire hr h := h.retireHead hr
  balance _ _ h := h.congr rfl rfl rfl (fun _ ha => ha) fun _ => le_rfl
  books _ _ _ _ _ _ h := h.congr rfl rfl rfl (fun _ ha => ha) fun _ => le_rfl
  sensing hb h := h.congr rfl rfl rfl (fun k ha => by rwa [accepting_sampled hb]) fun _ => le_rfl
  timing _ h := h.congr rfl rfl rfl (fun _ ha => ha) fun _ => le_rfl
  air hr hp h := h.congr rfl hr hp (fun _ ha => ha) fun _ => le_rfl
  tally hr h := h.congr hr rfl rfl (fun _ ha => ha) fun _ => le_rfl
  examine h := h.examine
  endPulse k tag h := h.endPulse k tag
  discard h := bidsKept_of_empty rfl (fun k => by simp [discardItems]) fun _ k => by simp [discardItems]
  maskAll hr h := bidsKept_of_empty hr (fun k => by
    rw [State.onOutlets_air, h.presents k (by simp)]; simp [presented, oldestRequesting, hr])
    fun hs k => by simpa using h.queues hs k
  outlet := by
    intro s k f hl ha h
    refine h.congr rfl rfl rfl (fun j haj => ?_) fun j => ?_
    · by_cases hj : j = k
      · subst hj; exact ha haj
      · rwa [accepting_onOutlet_ne hj]
    · rw [State.onOutlet_get]
      split
      · next hj => subst hj; exact hl
      · exact le_rfl
  lose := by
    intro s k f l before hl hb _ h
    refine h.lost rfl rfl rfl (fun j hj ha => ?_) (fun hs r hr hrk => ?_) fun j => ?_
    · exact (accepting_onOutlet_ne hj f s).trans ha
    · obtain ⟨s0, h0, hr0, rfl⟩ := hb
      exact h0.accepting_of_bid hs (hr0 ▸ hr) hrk
    · show (s.onOutlet k f).outlets[j].queue.length ≤ _
      rw [State.onOutlet_get]
      split
      · next hj => subst hj; exact hl
      · exact le_rfl
  edge he hk h := by
    have hs1 := (takeEdge_some he).2.2
    obtain ⟨others, -, rfl⟩ := hs1
    exact h.congr rfl rfl rfl (fun k ha => accepting_of_takeEdge he (hk k) ha) fun _ => le_rfl
  readyFall := by
    intro s s1 k e he hm h
    have hacc : ∀ j, j ≠ k → accepting j s = true → accepting j s1 = true := fun j hj ha =>
      accepting_of_takeEdge he (fun hi => absurd (GateInput.readyLine.inj hi).symm hj) ha
    have hb : strict → ∀ r ∈ s.track.records, r.bidsAt k → accepting k s = true := fun hs r hr hrk =>
      h.accepting_of_bid hs hr hrk
    obtain ⟨-, -, others, -, rfl⟩ := takeEdge_some he
    have hlost : ∀ f : Outlet → Outlet, (f s.outlets[k]).queue.length ≤ s.outlets[k].queue.length →
        ∀ tr : Track, tr.records = s.track.records →
        BidsKept strict (reportLoss present k (accepting k s)
          { (s.withEdges others).onOutlet k f with track := tr }) := by
      intro f hf tr ht
      refine h.lost ht rfl rfl (fun j hj ha => (accepting_onOutlet_ne hj f _).trans (hacc j hj ha)) hb fun j => ?_
      show ((s.withEdges others).onOutlet k f).outlets[j].queue.length ≤ _
      rw [State.onOutlet_get]
      split
      · next hj => subst hj; exact hf
      · exact le_rfl
    unfold fallReady
    rcases confirmationEvent_handoff (s := s.withEdges others) (accepting k s) hm with
      ⟨-, hc⟩ | ⟨-, -, hc⟩ | ⟨-, e, rest, hq, hc⟩
    · rw [hc]; exact h.lost rfl rfl rfl hacc hb fun _ => le_rfl
    · rw [hc]
      exact hlost (fun o => { o with stray := o.stray + 1 }) le_rfl s.track rfl
    · rw [hc]
      have hq' : s.outlets[k].queue = e :: rest := hq
      exact hlost (fun o => { o with queue := rest, sorted := o.sorted + 1, consecutive := 0 }) (by rw [hq']; simp)
        { s.track with sorted := s.track.sorted + 1 } rfl

end

end Sys2Proof.Machine
end

section
namespace Sys2Proof.Machine

open Sys2Proof

/-! ## Capture numbers (R17, R23, R24) -/

/-- The captures of the live entries, the capture counter and the queued messages agree. -/
def CapturesAgree (captures : List CaptureNumber) (counter : CaptureNumber) (queue : List CaptureNumber) : Prop :=
  captures.length ≤ 4 ∧
  (∀ i (h : i < captures.length), captures[i] = counter - BitVec.ofNat 4 (captures.length - 1 - i)) ∧
  queue <:+ captures

theorem capturesSound_iff (s : State) : CapturesSound s ↔
    CapturesAgree (s.admission.entries.map (·.capture)) s.admission.captureCounter s.admission.captureQueue := by
  simp [CapturesSound, CapturesAgree]

namespace CapturesAgree

variable {l q : List CaptureNumber} {n : CaptureNumber}

/-- The next number joins the tail, and its message the tail of the queue. -/
theorem opened (h : CapturesAgree l n q) (hl : l.length < 4) : CapturesAgree (l ++ [n + 1]) (n + 1) (q ++ [n + 1]) := by
  obtain ⟨-, hc, hq⟩ := h
  refine ⟨by rw [List.length_append]; exact hl, fun i hi => ?_, ?_⟩
  · rw [List.length_append, List.length_singleton] at hi ⊢
    rw [List.getElem_append]
    split
    · next hil =>
      rw [hc i hil, show l.length + 1 - 1 - i = l.length - 1 - i + 1 by omega, BitVec.ofNat_add]
      generalize BitVec.ofNat 4 (l.length - 1 - i) = m
      bv_omega
    · rw [show l.length + 1 - 1 - i = 0 by omega]
      simp
  · obtain ⟨front, hf⟩ := hq
    exact ⟨front, by rw [← hf, List.append_assoc]⟩

theorem nodup (h : CapturesAgree l n q) : l.Nodup := by
  obtain ⟨hl, hc, -⟩ := h
  rw [List.nodup_iff_injective_get]
  intro i j hij
  have hi := i.isLt
  have hj := j.isLt
  simp only [List.get_eq_getElem] at hij
  rw [hc i i.isLt, hc j j.isLt] at hij
  have hm : BitVec.ofNat 4 (l.length - 1 - i.val) = BitVec.ofNat 4 (l.length - 1 - j.val) := by bv_omega
  have := congrArg BitVec.toNat hm
  simp only [BitVec.toNat_ofNat] at this
  exact Fin.ext (by omega)

/-- The oldest number leaves, and its message if it still waits. -/
theorem removed {m : CaptureNumber} (h : CapturesAgree (m :: l) n q) : CapturesAgree l n (q.erase m) := by
  have hn := h.nodup
  obtain ⟨hl, hc, hq⟩ := h
  rw [List.length_cons] at hl
  refine ⟨by omega, fun i hi => ?_, ?_⟩
  · refine (hc (i + 1) (Nat.succ_lt_succ hi)).trans ?_
    rw [List.length_cons, show l.length + 1 - 1 - (i + 1) = l.length - 1 - i by omega]
  · rcases List.suffix_cons_iff.1 hq with rfl | hq
    · rw [List.erase_cons_head]
    · rwa [List.erase_of_not_mem fun hm => (List.nodup_cons.1 hn).1 (hq.subset hm)]

theorem begun {m : CaptureNumber} (h : CapturesAgree l n (m :: q)) : CapturesAgree l n q :=
  ⟨h.1, h.2.1, (List.suffix_cons m q).trans h.2.2⟩

theorem empty (n : CaptureNumber) : CapturesAgree [] n [] := ⟨Nat.zero_le _, by simp, List.suffix_refl _⟩

end CapturesAgree

theorem captures_frameClosed : FrameClosed CapturesSound where
  link _ h := h
  admission := by
    intro s a ha h
    rw [capturesSound_iff] at h ⊢
    cases ha with
    | books _ he hc hq => simpa only [he, hc, hq] using h
    | opened leading hl => simpa using h.opened (by simpa using hl)
    | removed e rest he =>
      rw [he] at h
      exact h.removed
    | amended es he => simpa only [he] using h
    | begun n rest _ hq =>
      rw [hq] at h
      exact h.begun
    | cleared n => exact .empty _
  sensing _ h := h
  edge _ h := h
  timing _ h := h
  track _ h := h
  rest _ _ _ _ _ _ _ _ _ _ h := h

/-! ## Capacities (R37, R171, R173, R177, R180) -/

/-- The queues and notice sets of the link keep within their capacities. -/
def LinkKept (l : Link) : Prop :=
  l.receiveQueue.length ≤ 8 ∧ l.transmitQueue.length ≤ 16 ∧ (l.transmitting = true → l.transmitQueue ≠ []) ∧
  ∀ a : StationId, l.stations[a].notices.length ≤ 24 ∧
    l.stations[a].notices.Pairwise (fun m n => ¬ (m.kind = n.kind ∧ m.subject = n.subject))

theorem capacitiesKept_iff (s : State) : CapacitiesKept s ↔ s.track.records.length ≤ 48 ∧ LinkKept s.link := Iff.rfl

/-- One station after a change of one. -/
theorem stations_get (v : Vector StationLink 7) (a b : StationId) (st : StationLink) :
    (v.set a st)[b] = if b = a then st else v[b] := by
  by_cases h : b = a
  · subst h; simp
  · have h' : a.val ≠ b.val := fun e => h (Fin.ext e.symm)
    simp [h, h']

/-- A notice set that takes a notice (R177). -/
theorem enterNotice_kept (n : Notice) {st : StationLink} (hl : st.notices.length ≤ 24)
    (hp : st.notices.Pairwise fun m n => ¬ (m.kind = n.kind ∧ m.subject = n.subject)) :
    (enterNotice n st).notices.length ≤ 24 ∧
      (enterNotice n st).notices.Pairwise (fun m n => ¬ (m.kind = n.kind ∧ m.subject = n.subject)) := by
  unfold enterNotice
  split
  · exact ⟨hl, hp⟩
  · next hn =>
    split
    · next hlt =>
      refine ⟨by rw [List.length_append]; exact hlt, List.pairwise_append.2 ⟨hp, List.pairwise_singleton .., ?_⟩⟩
      intro m hm x hx
      rw [List.mem_singleton] at hx
      subst hx
      rintro ⟨hk, hsu⟩
      exact hn (List.any_eq_true.2 ⟨m, hm, by simp [Notice.samePair, hk, hsu]⟩)
    · exact ⟨hl, hp⟩

theorem LinkKept.notice {l l' : Link} (h : LinkKept l) (hs : NoticeStep l l') : LinkKept l' := by
  obtain ⟨hr, hq, ht, hst⟩ := h
  cases hs with
  | books _ er eq et est => unfold LinkKept; rw [er, eq, et, est]; exact ⟨hr, hq, ht, hst⟩
  | enter a n =>
    refine ⟨hr, hq, ht, fun b => ?_⟩
    rw [stations_get]
    split
    · exact enterNotice_kept n (hst a).1 (hst a).2
    · exact hst b
  | place f hf => exact ⟨hr, by rw [List.length_append]; exact hf, fun _ => by simp, hst⟩

theorem LinkKept.step {l l' : Link} (h : LinkKept l) (hs : LinkStep l l') : LinkKept l' := by
  obtain ⟨hr, hq, ht, hst⟩ := id h
  cases hs with
  | notice hn => exact h.notice hn
  | shrink a st hsuf =>
    refine ⟨hr, hq, ht, fun b => ?_⟩
    rw [stations_get]
    split
    · exact ⟨hsuf.length_le.trans (hst a).1, (hst a).2.sublist hsuf.sublist⟩
    · exact hst b
  | receive q hf => exact ⟨by rw [List.length_append]; exact hf, hq, ht, hst⟩
  | take q rest e => exact ⟨by rw [e] at hr; exact (Nat.le_succ _).trans hr, hq, ht, hst⟩
  | begin hne => exact ⟨hr, hq, fun _ => hne, hst⟩
  | sent => exact ⟨hr, by rw [List.length_tail]; omega, by simp, hst⟩
  | reset =>
    refine ⟨Nat.zero_le _, ?_, fun htr => ?_, fun b => ?_⟩
    · simp only [Link.initialized]
      split
      · exact (List.length_take_le 1 _).trans (by omega)
      · simp
    · have htr' : l.transmitting = true := htr
      simp only [Link.initialized, htr', if_true]
      simpa using ht htr'
    · simp [Link.initialized]

theorem capacities_frameClosed : FrameClosed CapacitiesKept where
  link hl h := ⟨h.1, LinkKept.step h.2 hl⟩
  admission _ h := h
  sensing _ h := h
  edge _ h := h
  timing _ h := h
  track := by
    intro s tr ht h
    have hlen : tr.records.length ≤ 48 := by
      have := h.1
      omega
    exact ⟨hlen, h.2⟩
  rest _ _ _ _ _ _ _ _ _ _ h := h

/-! ## Measured quantities (R4, R7 to R9, R13, R61) -/

theorem leadOf_le {latency speed : Nat} (hl : latency ≤ 250) (hv : speed ≤ 1023) : leadOf latency speed ≤ 256 := by
  have : latency * speed ≤ 250 * 1023 := Nat.mul_le_mul hl hv
  unfold leadOf
  omega

theorem filtered_run_le {raw : Bool} {r : FilterRecord} (h : r.run ≤ 2) : (filtered raw r).run ≤ 2 := by
  unfold filtered
  split
  · exact Nat.zero_le _
  · split
    · exact Nat.zero_le _
    · show r.run + 1 ≤ 2
      omega

theorem ringWith_get (count : Nat) (ring : Vector Nat 8) (i : Fin 8) :
    (ringWith count ring)[i] = if h : i.val + 1 < 8 then ring[i.val + 1] else count := by
  simp [ringWith]

theorem QuantitiesInRange.sensing {s : State} {b : Sensing} (h : QuantitiesInRange s) (hb : SensingStep s.sensing b) :
    QuantitiesInRange { s with sensing := b } := by
  obtain ⟨hd, hi, hr, hv, hl, hg, hk⟩ := h
  cases hb with
  | closed n =>
    refine ⟨hd, Nat.zero_le _, fun i => ?_, min_le_right _ _, hl, hg, hk⟩
    show (ringWith _ _)[i] ≤ _
    rw [ringWith_get]
    split
    · next hi8 => exact hr ⟨i.val + 1, hi8⟩
    · exact hi
  | reset n => exact ⟨Nat.zero_le _, Nat.zero_le _, fun i => by simp [Sensing.initialized], Nat.zero_le _, hl, hg, hk⟩
  | sampled ge chutes crates readies he =>
    rw [sampled_eq]
    refine ⟨hd, hi, hr, hv, hl, filtered_run_le hg, fun k => ?_⟩
    simp only [filterAll, Fin.getElem_fin, Vector.getElem_ofFn]
    obtain ⟨h1, h2, h3⟩ := hk k
    exact ⟨filtered_run_le h1, filtered_run_le h2, filtered_run_le h3⟩

theorem quantities_frameClosed : FrameClosed QuantitiesInRange where
  link _ h := h
  admission _ h := h
  sensing hb h := h.sensing hb
  edge _ h := h
  timing := by
    rintro s ts ht ⟨hd, hi, hr, hv, hl, hg, hk⟩
    refine ⟨hd, hi, hr, hv, fun k => ?_, hg, hk⟩
    obtain ⟨hlat, hlead⟩ := ht k
    have hlat' : ts[k].latency ≤ 250 := by
      rcases hlat with e | e
      · rw [e]; exact (hl k).1
      · exact e
    refine ⟨hlat', ?_⟩
    rcases hlead with e | e | e
    · rw [e]; exact (hl k).2
    · rw [e]; exact Nat.zero_le _
    · rw [e]; exact leadOf_le hlat' hv
  track _ h := h
  rest _ _ _ _ _ _ _ _ _ _ h := h

theorem QuantitiesInRange.odometer {s : State} {b : Sensing} (hb : OdometerStep s.sensing b) (h : QuantitiesInRange s) :
    QuantitiesInRange { s with sensing := b } := by
  obtain ⟨hd, hi, hr, hv, hl, hg, hk⟩ := h
  obtain ⟨e, hd', hi'⟩ := hb
  rw [e]
  exact ⟨hd'.trans (max_le hd le_rfl), hi'.trans (max_le hi le_rfl), hr, hv, hl, hg, hk⟩

/-! ## Edges that wait (R13, R15) -/

theorem EdgesSound.sensing {s : State} {b : Sensing} (h : EdgesSound s) (hb : SensingStep s.sensing b) :
    EdgesSound { s with sensing := b } := by
  cases hb with
  | closed n => exact ⟨h.1, fun e he => ⟨((h.2 e he).1).trans (by cases e.input <;> rfl), (h.2 e he).2⟩⟩
  | reset n => exact ⟨h.1, fun e he => ⟨((h.2 e he).1).trans (by cases e.input <;> rfl), (h.2 e he).2⟩⟩
  | sampled ge chutes crates readies hs =>
    refine ⟨nodup_sampled_edges _ _ _ _ _ hs, fun e he => ?_⟩
    obtain ⟨hc, hk, hr, -⟩ := (mem_sampled_edges _ _ _ _ _ hs).1 he
    exact ⟨by rw [recordAt_sampled, filtered_active, if_pos hc, hr], hk⟩

theorem edges_frameClosed : FrameClosed EdgesSound where
  link _ h := h
  admission _ h := h
  sensing hb h := h.sensing hb
  edge := by
    intro s e h
    refine ⟨h.1.sublist ((List.erase_sublist ..).map _), fun x hx => ?_⟩
    obtain ⟨ha, hk⟩ := h.2 x (List.mem_of_mem_erase hx)
    exact ⟨ha.trans (by cases x.input <;> rfl), hk⟩
  timing _ h := h
  track _ h := h
  rest _ _ _ _ _ _ _ _ _ _ h := h

theorem EdgesSound.odometer {s : State} {b : Sensing} (hb : OdometerStep s.sensing b) (h : EdgesSound s) :
    EdgesSound { s with sensing := b } := by
  obtain ⟨e, -⟩ := hb
  rw [e]
  exact ⟨h.1, fun x hx => ⟨((h.2 x hx).1).trans (by cases x.input <;> rfl), (h.2 x hx).2⟩⟩

/-! ## The step -/

theorem BidsKept.odometer {strict : Prop} {s : State} {b : Sensing} (hb : OdometerStep s.sensing b)
    (h : BidsKept strict s) : BidsKept strict { s with sensing := b } := by
  obtain ⟨e, -⟩ := hb
  rw [e]
  exact h.congr rfl rfl rfl (fun _ ha => ha) fun _ => le_rfl

theorem bidsKept_powerOn (strict : Prop) (p : Phases) (e : Bool) (s : State) :
    BidsKept strict { State.powerOn p e with draws := s.draws, pending := s.pending } :=
  bidsKept_of_empty rfl (fun k => by simp [State.powerOn, Air.powerOn])
    fun _ k => by simp [State.powerOn, Outlet.powerOn]

theorem step_bidsKept {strict : Prop} {s t : State} (h : BidsKept strict s) (hx : step s = .next t) :
    BidsKept strict t :=
  (bidsKept_closed strict).step BidsKept.odometer (bidsKept_powerOn strict) h hx

theorem linkKept_powerOn : LinkKept Link.powerOn := by
  unfold LinkKept
  decide

theorem quantities_powerOn (p : Phases) (e : Bool) (s : State) :
    QuantitiesInRange { State.powerOn p e with draws := s.draws, pending := s.pending } := by
  simp [QuantitiesInRange, State.powerOn, Sensing.powerOn, OutletTiming.powerOn, FilterRecord.powerOn]

end Sys2Proof.Machine

open Sys2Proof Sys2Proof.Machine in
/-- Settles O11: each invariant is kept by every kind of change a command is made of. -/
theorem stepKeepsCapacitiesAndRanges : Obligations.StepKeepsCapacitiesAndRanges := by
  refine ⟨fun s t h hx => ?_, fun s t h hx => ?_, fun s t h hx => ?_, fun s t h hx => ?_, fun s t h hx => ?_,
    fun s t h hx => ?_⟩
  · exact captures_frameClosed.closed.step (fun _ h => h) (fun _ _ _ => (capturesSound_iff _).2 (.empty _)) h hx
  · exact capacities_frameClosed.closed.step (fun _ h => h) (fun _ _ _ => ⟨Nat.zero_le _, linkKept_powerOn⟩) h hx
  · exact quantities_frameClosed.closed.step QuantitiesInRange.odometer quantities_powerOn h hx
  · exact edges_frameClosed.closed.step EdgesSound.odometer
      (fun _ _ _ => ⟨List.nodup_nil, by simp [State.powerOn, Sensing.powerOn]⟩) h hx
  · exact (bidsKept_iff_requestsSound t).1 (step_bidsKept ((bidsKept_iff_requestsSound s).2 h) hx)
  · exact (bidsKept_iff_bidsSound t).1 (step_bidsKept ((bidsKept_iff_bidsSound s).2 h) hx)
end

section
/-! SUPPORT. The encoder, the advance of B and the close of a speed interval (R1 to R10, R31, R62, R163). -/

namespace Sys2Proof.Machine

open Sys2Proof

/-! ## Encoder events -/

theorem forwardOf_eq (p : Phases) : forwardOf p = nextForward p := by
  obtain ⟨_ | _, _ | _⟩ := p <;> rfl

theorem nextForward_ne (p : Phases) : nextForward p ≠ p := by
  obtain ⟨_ | _, _ | _⟩ := p <;> decide

theorem nextForward_nextForward_ne (p : Phases) : nextForward (nextForward p) ≠ p := by
  obtain ⟨_ | _, _ | _⟩ := p <;> decide

/-- The classification of an encoder event (R1). -/
theorem classifyStep_eq (old new : Phases) : classifyStep old new =
    if new = old then .none_ else if new = nextForward old then .forward else if old = nextForward new then .reverse
    else .skip := by
  simp only [classifyStep, forwardOf_eq]

section

variable {p : Phases} {s : State}

theorem exec_encoder_unmoved (h : p = s.sensing.previous) : exec (.encoderEvent p) s = .next s := by
  simp only [exec, execEncoderEvent, classifyStep_eq, if_pos h]

theorem exec_encoder_forward (h : p = nextForward s.sensing.previous) :
    exec (.encoderEvent p) s = .next (forwardStep (takePhases p s)) := by
  have hc : classifyStep s.sensing.previous p = .forward := by
    rw [classifyStep_eq, if_neg (h ▸ nextForward_ne _), if_pos h]
  simp only [exec, execEncoderEvent, hc]

/-- A forward step at a debt above 0 repays a count (R2). -/
theorem exec_encoder_repay (h : p = nextForward s.sensing.previous) (hd : 0 < s.sensing.debt) :
    exec (.encoderEvent p) s = .next (s.onSensing fun b => { b with previous := p, debt := b.debt - 1 }) := by
  have hd' : 0 < (takePhases p s).sensing.debt := hd
  rw [exec_encoder_forward h, forwardStep, if_pos hd']
  rfl

theorem exec_encoder_reverse (h : s.sensing.previous = nextForward p) :
    exec (.encoderEvent p) s = .next (reverseStep (takePhases p s)) := by
  have hc : classifyStep s.sensing.previous p = .reverse := by
    rw [classifyStep_eq, h, if_neg (nextForward_ne p).symm, if_neg (nextForward_nextForward_ne p).symm, if_pos rfl]
  simp only [exec, execEncoderEvent, hc]

theorem exec_encoder_skip (h1 : p.phase1 ≠ s.sensing.previous.phase1) (h2 : p.phase2 ≠ s.sensing.previous.phase2) :
    exec (.encoderEvent p) s =
      .next (s.onSensing fun b => { b with previous := p, encoderSkip := b.encoderSkip + 1 }) := by
  have hc : classifyStep s.sensing.previous p = .skip := by
    rw [classifyStep_eq]
    revert h1 h2
    generalize s.sensing.previous = old
    obtain ⟨_ | _, _ | _⟩ := old <;> obtain ⟨_ | _, _ | _⟩ := p <;> decide
  simp only [exec, execEncoderEvent, hc]
  rfl

/-! ## What an advance leaves -/

/-- The blocks and fields that the handlings of an advance leave, and what they touch of the outlets. -/
structure AdvanceFrame (s t : State) : Prop where
  sensing : t.sensing = s.sensing
  draws : t.draws = s.draws
  now : t.now = s.now
  geometry : t.geometry = s.geometry
  routes : t.routes = s.routes
  channels : t.channels = s.channels
  pending : t.pending = s.pending
  receiveQueue : t.link.receiveQueue = s.link.receiveQueue
  timing : ∀ k : OutletId, t.timing[k] = { s.timing[k] with lastPulse := t.timing[k].lastPulse }
  outlets : ∀ k : OutletId, t.outlets[k] = { s.outlets[k] with queue := t.outlets[k].queue }

theorem AdvanceFrame.refl (s : State) : AdvanceFrame s s :=
  ⟨rfl, rfl, rfl, rfl, rfl, rfl, rfl, rfl, fun _ => rfl, fun _ => rfl⟩

theorem AdvanceFrame.diversion {s t u : State} (h : AdvanceFrame s t) (d : DiversionFrame t u) : AdvanceFrame s u where
  sensing := d.sensing.trans h.sensing
  draws := d.draws.trans h.draws
  now := d.now.trans h.now
  geometry := d.geometry.trans h.geometry
  routes := d.routes.trans h.routes
  channels := d.channels.trans h.channels
  pending := d.pending.trans h.pending
  receiveQueue := by rw [d.link]; exact h.receiveQueue
  timing k := by rw [d.timing k, h.timing k]
  outlets k := by rw [d.outlets k, h.outlets k]

theorem awaitConfirm_outlets (k j : OutletId) (tag : SequenceTag) (s : State) : (awaitConfirm k tag s).outlets[j] =
    { s.outlets[j] with queue := (awaitConfirm k tag s).outlets[j].queue } := by
  unfold awaitConfirm
  rw [State.onOutlet_get]
  split <;> rfl

theorem AdvanceFrame.awaitConfirm {s t : State} (h : AdvanceFrame s t) (k : OutletId) (tag : SequenceTag) :
    AdvanceFrame s (awaitConfirm k tag t) :=
  { h with outlets := fun j => by rw [awaitConfirm_outlets, h.outlets j] }

/-- A cut touches the Air Arbiter and the confirm queues alone (R89). -/
theorem AdvanceFrame.cutPulse {s t : State} (h : AdvanceFrame s t) (k : OutletId) : AdvanceFrame s (cutPulse t k) := by
  unfold Machine.cutPulse
  split
  · exact h
  · refine AdvanceFrame.diversion (AdvanceFrame.awaitConfirm ?_ k _) (presentQuietly_diversion k _)
    exact ⟨h.1, h.2, h.3, h.4, h.5, h.6, h.7, h.8, h.9, h.10⟩

theorem advanceFrame_beltClosed (s : State) : BeltClosed (AdvanceFrame s) where
  notice hn h := { h with receiveQueue := by cases hn <;> simp_all [h.receiveQueue] }
  line _ h := ⟨h.1, h.2, h.3, h.4, h.5, h.6, h.7, h.8, h.9, h.10⟩
  ident _ h := ⟨h.1, h.2, h.3, h.4, h.5, h.6, h.7, h.8, h.9, h.10⟩
  cut k h := h.cutPulse k
  admission _ h := ⟨h.1, h.2, h.3, h.4, h.5, h.6, h.7, h.8, h.9, h.10⟩
  append _ _ _ h := ⟨h.1, h.2, h.3, h.4, h.5, h.6, h.7, h.8, h.9, h.10⟩
  evaluate tag h := h.diversion (evaluateRecord_diversion _ tag)
  retire := by
    intro t r rest _ h
    unfold retireHead
    extract_lets t1
    have h1 : AdvanceFrame s t1 := ⟨h.1, h.2, h.3, h.4, h.5, h.6, h.7, h.8, h.9, h.10⟩
    split
    · exact h1.diversion ((withdraw_diversion _ r.tag t1).trans (present_diversion _ _))
    · exact h1
  balance _ _ h := ⟨h.1, h.2, h.3, h.4, h.5, h.6, h.7, h.8, h.9, h.10⟩

/-! ## The outputs of a state that drives them already -/

theorem requestCount_pos_iff (s : State) : 0 < requestCount s ↔ ∃ k : OutletId, s.air.requests[k] ≠ none := by
  unfold requestCount
  rw [List.length_pos_iff_exists_mem]
  constructor
  · rintro ⟨x, hx⟩
    obtain ⟨hm, hsome⟩ := List.mem_filter.1 hx
    obtain ⟨i, hi, rfl⟩ := Vector.mem_iff_getElem.1 (Vector.mem_toList_iff.1 hm)
    exact ⟨⟨i, hi⟩, by simpa [Option.isSome_iff_ne_none] using hsome⟩
  · rintro ⟨k, hk⟩
    exact ⟨s.air.requests[k], List.mem_filter.2 ⟨by simp, Option.isSome_iff_ne_none.2 hk⟩⟩

theorem moving_iff (l : LineState) : l.moving = true ↔ l = .run ∨ l = .drain := by
  cases l <;> simp [LineState.moving]

theorem stoppedCondition_iff (s : State) : StoppedCondition s ↔
    (!s.line.state.moving || s.line.estop || s.line.resCopy ||
      (decide (48 ≤ s.track.records.length) && decide (0 < requestCount s))) = true := by
  simp only [StoppedCondition, Bool.or_eq_true, Bool.and_eq_true, decide_eq_true_eq, Bool.not_eq_true',
    ← Bool.not_eq_true, moving_iff, requestCount_pos_iff, or_assoc]

theorem slowCondition_iff (s : State) : SlowCondition s ↔
    (decide (s.line.slowMark ≤ s.track.records.length) || s.line.airCopy ||
      decide (4 ≤ s.admission.entries.length)) = true := by
  simp only [SlowCondition, Bool.or_eq_true, decide_eq_true_eq, or_assoc]

theorem identReadyNow_iff (s : State) : identReadyNow s = true ↔
    (s.line.state = .run ∨ s.line.state = .drain) ∧ s.admission.entries.length < 4 := by
  simp only [identReadyNow, Bool.and_eq_true, decide_eq_true_eq, moving_iff]

/-- Outputs that are driven already stay as they are. -/
theorem driveOutputs_of_driven (h : OutputsDriven s) : driveOutputs s = s := by
  obtain ⟨hstop, hslow, hrun, hident⟩ := h
  have hi : identReadyNow s = s.admission.identReady := by
    rw [Bool.eq_iff_iff, identReadyNow_iff, hident]
  have hg : s.line.governor = governorNow s ∧ s.line.speedRef = speedReferenceOf s.line (governorNow s) := by
    rw [stoppedCondition_iff] at hstop hslow hrun
    rw [slowCondition_iff] at hslow hrun
    unfold governorNow
    split
    · next hs => exact hstop hs
    · next hs =>
      split
      · next hl => exact hslow hs hl
      · next hl => exact hrun hs hl
  have hline :
        { s.line with speedRef := speedReferenceOf s.line (governorNow s), governor := governorNow s } = s.line := by
    rw [← hg.2, ← hg.1]
  have hadm : { s.admission with identReady := identReadyNow s } = s.admission := by rw [hi]
  exact congrArg₂ (fun l a => { s with line := l, admission := a }) hline hadm

/-! ## The two handlings of an advance -/

theorem admissionAdvance_of_moving (h : s.line.state = .run ∨ s.line.state = .drain) :
    admissionAdvance s = examineHead s := by
  rcases h with h | h <;> simp [admissionAdvance, examineHead, h, LineState.moving]

theorem admissionAdvance_of_idle (h : s.line.state = .standby ∨ s.admission.entries = []) : admissionAdvance s = s := by
  rcases h with h | h
  · simp [admissionAdvance, h]
  · unfold admissionAdvance
    rw [h]
    split <;> rfl

/-- In HALT a head carried 3,200 counts is discarded, and the next head looked at (R33). -/
theorem admissionAdvance_of_far {r : ResumeState} (hl : s.line.state = .halt r) {e : PendingEntry}
    {rest : List PendingEntry} (he : s.admission.entries = e :: rest)
    (hf : 3200 ≤ signedDiff s.sensing.position e.leading) :
    admissionAdvance s = admissionAdvance (s.onAdmission fun a =>
      { a with
        entries := rest
        captureQueue := a.captureQueue.erase e.capture
        pendingAbandoned := a.pendingAbandoned + 1 }) := by
  simp only [admissionAdvance, State.onAdmission_line, hl, he, List.length_cons, discardHeads, hf, if_true]
  rfl

theorem admissionAdvance_of_near {r : ResumeState} (hl : s.line.state = .halt r) {e : PendingEntry}
    {rest : List PendingEntry} (he : s.admission.entries = e :: rest)
    (hf : signedDiff s.sensing.position e.leading < 3200) : admissionAdvance s = s := by
  simp only [admissionAdvance, hl, he, List.length_cons, discardHeads, not_le.2 hf, if_false]

theorem trackAdvance_of_empty (h : s.track.records = []) : trackAdvance s = s := by
  have he : evaluateTrack s = s := by simp [evaluateTrack, h]
  rw [trackAdvance, he, retireAll, h]
  rfl

/-- The state in which the two units take an advance: B and the interval count are raised, and a free value is used. -/
def advanced (p : Phases) (s : State) : State :=
  (advancePosition (takePhases p s)).onDraws (· + 1)

theorem exec_encoder_advance (h : p = nextForward s.sensing.previous) (hd : s.sensing.debt = 0) :
    exec (.encoderEvent p) s = .next (settleLine (trackAdvance (admissionAdvance (advanced p s)))) ∨
      exec (.encoderEvent p) s = .next (settleLine (admissionAdvance (trackAdvance (advanced p s)))) := by
  have hd' : ¬ 0 < (takePhases p s).sensing.debt := by
    show ¬ 0 < s.sensing.debt
    omega
  rw [exec_encoder_forward h, forwardStep, if_neg hd', advance, inEitherOrder, inOrder]
  split
  · exact .inr rfl
  · exact .inl rfl

theorem advanceFrame_advanced (p : Phases) (s : State) :
    AdvanceFrame (advanced p s) (settleLine (trackAdvance (admissionAdvance (advanced p s)))) ∧
      AdvanceFrame (advanced p s) (settleLine (admissionAdvance (trackAdvance (advanced p s)))) := by
  have h := advanceFrame_beltClosed (advanced p s)
  exact ⟨h.settleLine (h.trackAdvance (h.admissionAdvance (.refl _))),
    h.settleLine (h.admissionAdvance (h.trackAdvance (.refl _)))⟩

/-- On an empty belt outside DRAIN an advance ends with the outputs as they were. -/
theorem settleLine_of_still (ho : OutputsDriven s) (hl : s.line.state ≠ .drain) : settleLine s = s := by
  have hd : drainComplete s = false := by simp [drainComplete, hl]
  rw [settleLine, testDrain, hd]
  exact driveOutputs_of_driven ho

/-- B after a command other than power-on and an encoder event (R3). -/
theorem position_frameClosed (x : Position) : FrameClosed fun s => s.sensing.position = x where
  link _ h := h
  admission _ h := h
  sensing hb h := by
    cases hb with
    | closed n => exact h
    | reset n => exact h
    | sampled ge chutes crates readies _ => rw [sampled_eq]; exact h
  edge _ h := h
  timing _ h := h
  track _ h := h
  rest _ _ _ _ _ _ _ _ _ _ h := h

/-- B after an encoder event (R2). -/
theorem position_execEncoderEvent {t : State} (hx : exec (.encoderEvent p) s = .next t) : t.sensing.position =
    if p = nextForward s.sensing.previous ∧ s.sensing.debt = 0 then s.sensing.position + 1 else s.sensing.position := by
  by_cases hf : p = nextForward s.sensing.previous
  · by_cases hd : s.sensing.debt = 0
    · rw [if_pos ⟨hf, hd⟩]
      rcases exec_encoder_advance hf hd with h | h
      · rw [h] at hx; cases hx; rw [(advanceFrame_advanced p s).1.sensing]; rfl
      · rw [h] at hx; cases hx; rw [(advanceFrame_advanced p s).2.sensing]; rfl
    · rw [if_neg fun h => hd h.2]
      rw [exec_encoder_repay hf (Nat.pos_of_ne_zero hd)] at hx
      cases hx; rfl
  · rw [if_neg fun h => hf h.1]
    simp only [exec, execEncoderEvent, classifyStep_eq, if_neg hf] at hx
    split at hx
    · cases hx; rfl
    · next hc => split at hc <;> [skip; split at hc] <;> cases hc
    · cases hx
      have hk := position_frameClosed s.sensing.position
      unfold reverseStep
      dsimp only
      split
      · exact hk.closed.driveOutputs (hk.closed.raiseReverse rfl)
      · rfl
    · cases hx; rfl

/-! ## REVERSE (R5, R163) -/

theorem raiseNotice_line (n : Notice) (s : State) : (raiseNotice n s).line = s.line := by
  obtain ⟨l, -, h⟩ := raiseNotice_onLink n s
  rw [h]

theorem haltOf_some {l h : LineState} (hl : haltOf l = some h) : l.moving = true ∧ l.halted = h := by
  cases l <;> simp_all [haltOf, LineState.moving, LineState.halted]

theorem haltOf_none {l : LineState} (hl : haltOf l = none) : l.moving = false := by
  cases l <;> simp_all [haltOf, LineState.moving]

/-- A reverse step raises the debt, up to 255 (R4). -/
theorem exec_encoder_owe (hr : s.sensing.previous = nextForward p) (hd : s.sensing.debt ≠ 64) :
    exec (.encoderEvent p) s = .next (s.onSensing fun b => { b with previous := p, debt := min (b.debt + 1) 255 }) := by
  have hd' : (takePhases p s).sensing.debt ≠ 64 := hd
  rw [exec_encoder_reverse hr, reverseStep, if_neg hd']
  rfl

/-- The reverse step from 64 to 65 raises the REVERSE condition (R5). -/
theorem exec_encoder_raise (hr : s.sensing.previous = nextForward p) (hd : s.sensing.debt = 64) :
    exec (.encoderEvent p) s =
      .next (driveOutputs (raiseReverse (s.onSensing fun b => { b with previous := p, debt := 65 }))) := by
  have hd' : (takePhases p s).sensing.debt = 64 := hd
  rw [exec_encoder_reverse hr, reverseStep, if_pos hd']
  simp [takePhases, State.onSensing, hd]

/-- REVERSE in RUN and DRAIN: the FAULT notice, the halt with its LINE notice, and the cut. -/
theorem raiseReverse_of_moving {h : LineState} (hl : haltOf s.line.state = some h) :
    raiseReverse s = cutPulses (raiseNotice (.line (some s.line.state) h .reverse)
      ((raiseNotice (.fault s.sensing.debt s.line.state) s).onLine fun l => { l with state := h })) := by
  obtain ⟨hm, hh⟩ := haltOf_some hl
  simp only [raiseReverse, hm, if_true, haltLine, raiseNotice_line, moveLine, hh]

theorem raiseReverse_of_still (hl : haltOf s.line.state = none) :
    raiseReverse s = raiseNotice (.fault s.sensing.debt s.line.state) s := by
  simp only [raiseReverse, haltOf_none hl, if_false, Bool.false_eq_true]

end

end Sys2Proof.Machine

open Sys2Proof Sys2Proof.Machine

/-- Settles O13: an encoder event by its classification, and every other command by what it leaves of belt sensing. -/
theorem positionMovesByAdvancesAlone : Obligations.PositionMovesByAdvancesAlone := by
  intro c s t hx hp
  by_cases he : ∃ p, c = .encoderEvent p
  · obtain ⟨p, rfl⟩ := he
    simpa using position_execEncoderEvent hx
  · rw [if_neg fun h => he ⟨_, h.1⟩]
    exact (position_frameClosed s.sensing.position).closed.exec hp (fun p h => he ⟨p, h⟩) rfl hx

/-- Settles O30, by the classification of the event and the two cases of REVERSE. -/
theorem encoderStepsWithoutAdvance : Obligations.EncoderStepsWithoutAdvance := by
  refine ⟨fun p s => ⟨exec_encoder_unmoved, exec_encoder_skip, exec_encoder_repay, exec_encoder_owe⟩,
    fun p s hr hd => ⟨fun h hh => ?_, fun hh => ?_⟩⟩
  · rw [exec_encoder_raise hr hd, raiseReverse_of_moving (h := h) (by exact hh)]
    rfl
  · rw [exec_encoder_raise hr hd, raiseReverse_of_still (by exact hh)]
    rfl

/-- Settles O31: the frame of the two handlings, in either order, and what each of them is. -/
theorem advanceMovesTheBeltByOne : Obligations.AdvanceMovesTheBeltByOne := by
  refine ⟨fun p s hf hd => ?_, fun w => ⟨rfl, admissionAdvance_of_moving, admissionAdvance_of_idle,
    fun r hl e rest he => ⟨admissionAdvance_of_far hl he, admissionAdvance_of_near hl he⟩⟩⟩
  intro sensed v
  have hv : advanced p s = v := rfl
  obtain ⟨t, hx, ht, hfr⟩ : ∃ t, exec (.encoderEvent p) s = .next t ∧
      (t = settleLine (trackAdvance (admissionAdvance v)) ∨ t = settleLine (admissionAdvance (trackAdvance v))) ∧
      AdvanceFrame v t := by
    rcases exec_encoder_advance hf hd with hx | hx
    · exact ⟨_, hx, .inl rfl, (advanceFrame_advanced p s).1⟩
    · exact ⟨_, hx, .inr rfl, (advanceFrame_advanced p s).2⟩
  refine ⟨t, hx, ht, hfr.sensing, hfr.draws, hfr.now, hfr.geometry, hfr.routes, hfr.channels, hfr.pending,
    hfr.receiveQueue, fun k => ⟨hfr.timing k, hfr.outlets k⟩, fun ho he hr hl => ?_⟩
  have ha : admissionAdvance v = v := admissionAdvance_of_idle (.inr he)
  have hk : trackAdvance v = v := trackAdvance_of_empty hr
  have hs : settleLine v = v := settleLine_of_still ho hl
  have htv : t = v := by
    rcases ht with ht | ht
    · rw [ht, ha, hk, hs]
    · rw [ht, hk, ha, hs]
  rw [htv]
end

section
/-! SUPPORT. The close of a speed interval, the sample of the inputs, and the fall of a ready line (R8 to R15, R62, R99,
R100, R110). -/

namespace Sys2Proof.Machine

open Sys2Proof

variable {s t : State}

/-! ## The close of a speed interval -/

/-- What the end of an event leaves besides the frame of an advance: the balances and the pending list. -/
structure SettleFrame (s t : State) : Prop extends AdvanceFrame s t where
  balances : t.balances = s.balances
  entries : t.admission.entries = s.admission.entries

theorem SettleFrame.refl (s : State) : SettleFrame s s := { AdvanceFrame.refl s with balances := rfl, entries := rfl }

theorem SettleFrame.diversion {u : State} (h : SettleFrame s t) (d : DiversionFrame t u) : SettleFrame s u :=
  { h.toAdvanceFrame.diversion d with
    balances := d.balances.trans h.balances
    entries := by rw [d.admission]; exact h.entries }

theorem SettleFrame.cutPulse (h : SettleFrame s t) (k : OutletId) : SettleFrame s (cutPulse t k) := by
  refine { h.toAdvanceFrame.cutPulse k with balances := ?_, entries := ?_ }
  · unfold Machine.cutPulse
    split
    · exact h.balances
    · exact (presentQuietly_diversion k _).balances.trans h.balances
  · unfold Machine.cutPulse
    split
    · exact h.entries
    · rw [(presentQuietly_diversion k _).admission]; exact h.entries

theorem settleFrame_lineClosed (s : State) : LineClosed (SettleFrame s) where
  notice hn h :=
      { (advanceFrame_beltClosed s).notice hn h.toAdvanceFrame with balances := h.balances, entries := h.entries }
  line f h := { (advanceFrame_beltClosed s).line f h.toAdvanceFrame with balances := h.balances, entries := h.entries }
  ident b h :=
      { (advanceFrame_beltClosed s).ident b h.toAdvanceFrame with balances := h.balances, entries := h.entries }
  cut k h := h.cutPulse k

/-- One entry of `timing` after the recomputation of the leads (R62). -/
theorem recomputeLeads_get (s : State) (k : OutletId) : (recomputeLeads s).timing[k] =
    { s.timing[k] with
      lead :=
        if s.timing[k].offset = none then s.timing[k].lead
          else (s.timing[k].latency * s.sensing.speed + 500) / 1000 } := by
  simp only [recomputeLeads, State.onTimings_timing, Fin.getElem_fin, Vector.getElem_ofFn]
  by_cases ho : s.timing[k.val].offset = none
  · rw [if_pos ho, if_neg (by simp [ho])]
  · rw [if_neg ho, if_pos (Option.isSome_iff_ne_none.2 ho)]
    rfl

end Sys2Proof.Machine

open Sys2Proof Sys2Proof.Machine

/-- Settles O32: the closed interval, the recomputed leads, and the frame of the evaluation that follows. -/
theorem intervalCloseMeasuresSpeed : Obligations.IntervalCloseMeasuresSpeed := by
  refine fun s => ⟨fun hd => ?_, fun hd => ?_⟩
  · have hfr :
        SettleFrame (recomputeLeads (closeInterval s)) (settleLine (evaluateTrack (recomputeLeads (closeInterval s)))) :=
      (settleFrame_lineClosed _).settleLine ((SettleFrame.refl _).diversion (evaluateTrack_diversion _))
    refine ⟨recomputeLeads (closeInterval s), _, ?_, rfl, rfl, rfl, fun i => ?_, ?_, rfl,
      fun k => ⟨recomputeLeads_get _ k, hfr.timing k, hfr.outlets k⟩, hfr.sensing, hfr.now, hfr.geometry, hfr.routes,
      hfr.channels, hfr.balances, hfr.entries, hfr.pending⟩
    · simp only [exec, execSpeedIntervalClose, if_pos hd]
    · refine (ringWith_get _ _ i.castSucc).trans (dif_pos ?_)
      have := i.isLt
      simp only [Fin.val_castSucc]
      omega
    · exact ringWith_get _ _ 7
  · simp only [exec, execSpeedIntervalClose, if_neg (not_le.2 hd)]

namespace Sys2Proof.Machine

variable {s t : State}

/-! ## A sample -/

/-- With no edge waiting a sample passes the boundary and filters the inputs. -/
theorem exec_inputSample (ge : Bool) (chutes crates readies : Vector Bool 12) (h : s.sensing.edges = []) :
    exec (.inputSample ge chutes crates readies) s =
      .next { s with
        now := s.now + 1
        sensing := sampleOutletInputs chutes crates readies (sampleGe ge s.sensing) } := by
  simp only [exec, execInputSample, handEdges_of_none h]
  rfl

/-- The filter of one input, for a run in range (R13). -/
theorem filtered_eq {raw : Bool} {r : FilterRecord} (h : r.run ≤ 2) : filtered raw r =
    if raw = r.active then { r with run := 0 } else if r.run < 2 then { r with run := r.run + 1 }
    else { active := raw, run := 0 } := by
  unfold filtered
  split
  · rfl
  · by_cases h2 : r.run = 2
    · rw [if_pos h2, if_neg (by omega)]
    · rw [if_neg h2, if_pos (by omega)]

theorem filterAll_get (raws : Vector Bool 12) (records : Vector FilterRecord 12) (k : OutletId) :
    (filterAll raws records)[k] = filtered raws[k] records[k] := by simp [filterAll]

end Sys2Proof.Machine

/-- Settles O33: the records and edges of a sample, the handing of an edge that still waits, and the level read
beside it. -/
theorem inputSampleFiltersEveryInput : Obligations.InputSampleFiltersEveryInput := by
  refine ⟨fun ge chutes crates readies s hq hs => ?_, fun ge chutes crates readies e rest c s hs hc => ?_,
    fun input s => ⟨filteredState_of_none, fun e others hrep hi => hi ▸ filteredState_of_reports hrep⟩⟩
  · intro next done start place
    obtain ⟨-, -, -, -, -, hg, hk⟩ := hq
    refine ⟨_, exec_inputSample ge chutes crates readies hs, rfl, ?_, fun k => ?_, _, rfl,
      nodup_sampled_edges ge chutes crates readies _ hs, fun e => ?_⟩
    · refine (sampled_eq ge chutes crates readies s.sensing).trans ?_
      have hlead : (completes ge s.sensing.ge = true ∧ ge = true) ↔
          (ge = true ∧ s.sensing.ge.active = false ∧ s.sensing.ge.run = 2) := by
        rw [completes_iff]
        cases ge <;> simp
      simp only [sampled_chuteGates, sampled_crateSensors, sampled_readyLines, filtered_eq hg, hlead]
      rfl
    · obtain ⟨h1, h2, h3⟩ := hk k
      rw [sampled_eq]
      exact ⟨(filterAll_get ..).trans (filtered_eq h1), (filterAll_get ..).trans (filtered_eq h2),
        (filterAll_get ..).trans (filtered_eq h3)⟩
    · rw [mem_sampled_edges _ _ _ _ _ hs]
      obtain ⟨input, rising, position⟩ := e
      cases input with
      | ge =>
        have hp : edgePosition ge s.sensing .ge = place := rfl
        simp only [rawAt, recordAt, completes_iff, hp, done, FilteredEdge.mk.injEq, reduceCtorEq, true_and, false_and,
          or_false, exists_false, IsEmpty.forall_iff, implies_true]
        exact and_comm
      | chuteGate k =>
        simp [rawAt, recordAt, edgePosition, completes_iff, done]
        constructor
        · rintro ⟨hx, rfl, hc, hp⟩
          exact ⟨⟨rfl, hp⟩, hc.symm, hx⟩
        · rintro ⟨⟨rfl, hp⟩, hc, hx⟩
          exact ⟨hx, rfl, hc.symm, hp⟩
      | crateSensor k =>
        simp [rawAt, recordAt, edgePosition, completes_iff, done]
        exact and_comm
      | readyLine k =>
        simp [rawAt, recordAt, edgePosition, completes_iff, done]
        exact and_comm
  · refine ⟨handOldest s, exec_eq_handOldest hs hc, ?_, ?_⟩
    · rw [handOldest_sensing, hs]; rfl
    · have ht : (handOldest s).sensing.edges = rest := by rw [handOldest_sensing, hs]; rfl
      simp only [exec, execInputSample, hs, ht, List.length_cons, handEdges]

namespace Sys2Proof.Machine

variable {s t : State}

/-! ## The fall of a ready line -/

/-- The fall of a ready line that is the oldest edge of its input is taken. -/
theorem exec_readyLineFalling {k : OutletId} {others : List FilteredEdge}
    (h : s.reports { input := .readyLine k, rising := false, position := 0 } others) :
    exec (.readyLineFalling k) s = .next (match s.outlets[k].mode with
      | .crate => s.withEdges others
      | .handoff => settleLine (fallReady k (accepting k s) (s.withEdges others))) := by
  have ht : takeEdge (.readyLine k) false s = some (_, s.withEdges others) := takeEdge_of_reports h
  simp only [exec, execReadyLineFalling, takeReadyFalling, ht]
  rfl

/-- The report of a loss by an outlet that is not accepting before the event, or by one that was and is not after it. -/
theorem reportLoss_eq (k : OutletId) (before : Bool) (s : State) : reportLoss present k before s =
    if before = true ∧ accepting k s = false then lossOfAcceptance present k s else s := by
  simp [reportLoss]

/-- An edge that is the only one of its input leaves its input at the level it brought. -/
theorem filteredState_taken {e : FilteredEdge} {others : List FilteredEdge} (h : s.reports e others)
    (hs : EdgesSound s) :
    filteredState e.input (s.withEdges others) = e.rising := by
  obtain ⟨before, after, he, hb, rfl⟩ := h
  have hn := hs.1
  rw [he, List.map_append, List.map_cons, List.nodup_append] at hn
  obtain ⟨-, hn', -⟩ := hn
  rw [filteredState_of_none, (hs.2 e (by rw [he]; simp)).1]
  · cases e.input <;> rfl
  · intro x hx hi
    rcases List.mem_append.1 hx with hx | hx
    · exact hb x hx hi
    · exact (List.nodup_cons.1 hn').1 (hi ▸ List.mem_map_of_mem hx)

end Sys2Proof.Machine

/-- Settles O41, by what the confirmation event of a HANDOFF outlet is. -/
theorem readyLineConfirms : Obligations.ReadyLineConfirms := by
  refine ⟨fun k others s h => ?_, fun k others s h => ?_⟩
  · have ht : takeEdge (.readyLine k) true s = some (_, s.withEdges others) := takeEdge_of_reports h
    simp only [exec, execReadyLineRising, takeReadyRising, ht]
  intro u o lost
  have hx := exec_readyLineFalling h
  have hfall : ∀ {v : State}, o.mode = .handoff → confirmationEvent k (accepting k s) u = v →
      exec (.readyLineFalling k) s = .next (settleLine (lost v)) := by
    intro v hm hv
    rw [hx]
    simp only [show s.outlets[k].mode = .handoff from hm, fallReady]
    rw [show s.withEdges others = u from rfl, hv, reportLoss_eq]
  refine ⟨⟨filteredState_of_reports h, filteredState_taken h⟩, fun input hi => filteredState_withEdges h hi,
    fun hm => ?_, fun hm hu => ?_, fun hm hu => ⟨fun e rest hq => ?_, fun hq => ?_⟩⟩
  · rw [hx]
    simp only [show s.outlets[k].mode = .crate from hm]
    rfl
  · have hc : confirmationEvent k (accepting k s) u = u := by
      rcases confirmationEvent_handoff (s := u) (accepting k s) hm with ⟨-, hc⟩ | ⟨hu', -⟩ | ⟨hu', -⟩
      · exact hc
      · exact absurd hu hu'
      · exact absurd hu hu'
    have ha : accepting k s = false := accepting_eq_false (.inl (by rw [show s.outlets[k].state = _ from hu]; simp))
    have hl : lost u = u := if_neg fun h => by simp [ha] at h
    rw [hfall hm hc, hl]
  · refine hfall hm ?_
    rcases confirmationEvent_handoff (s := u) (accepting k s) hm with ⟨hu', -⟩ | ⟨-, hq', -⟩ | ⟨-, e', rest', hq', hc⟩
    · exact absurd hu' hu
    · exact absurd (hq.symm.trans hq') (by simp)
    · rw [hc, (List.cons.inj (hq'.symm.trans hq)).2]
      rfl
  · refine hfall hm ?_
    rcases confirmationEvent_handoff (s := u) (accepting k s) hm with ⟨hu', -⟩ | ⟨-, -, hc⟩ | ⟨-, e', rest', hq', -⟩
    · exact absurd hu' hu
    · exact hc
    · exact absurd (hq.symm.trans hq') (by simp)

end

section
/-! SUPPORT. What INITIALIZE and power-on leave in each block (R158, R166, R180). -/

namespace Sys2Proof.Machine

open Sys2Proof

variable {s t : State}

/-! ## Power-on -/

theorem powerOn_channels : ∀ c : ChannelId,
    ((Vector.replicate 14 Channel.powerOn).set airChannel { Channel.powerOn with trip := 96 })[c] =
      { mode := .watch, trip := if c = airChannel then 96 else 128, release := 112, period := 8, edges := .both,
        state := .off, ready := false, detected := false, lastVerdict := .none_, detectionCount := 0,
        firstRun := none, opposing := 0, settleEnd := none, nextSample := none } := by
  decide

/-- Power-on unmasks every notice and enters the LINE notice in station 0's set alone (R158, R176, R180). -/
theorem powerOn_stations : ∀ a : StationId,
    Link.powerOn.stations[a].mask = 0xFF ∧ Link.powerOn.stations[a].lost = false ∧
      Link.powerOn.stations[a].notices = if a = 0 then [.line none .standby .powerOn] else [] := by
  decide

/-! ## A cut on an empty belt -/

/-- A belt on which nothing is followed: no record, no confirm-queue entry and no request. -/
structure Emptied (s : State) : Prop where
  records : s.track.records = []
  queues : ∀ k : OutletId, s.outlets[k].queue = []
  requests : ∀ k : OutletId, s.air.requests[k] = none

theorem discardItems_emptied (s : State) : Emptied (discardItems s) where
  records := rfl
  queues k := by simp [discardItems]
  requests k := by simp [discardItems]

/-- The Air Arbiter with the diverters of `ks` de-energised and their cuts counted (R89). -/
def Air.cut (a : Air) (ks : List OutletId) : Air :=
  { a with
    pulses := Vector.ofFn fun k => if k ∈ ks then none else a.pulses[k]
    pulsesCut := a.pulsesCut + BitVec.ofNat 32 (ks.countP fun k => a.pulses[k].isSome) }

/-- A cut of an outlet whose diverter is off does nothing. -/
theorem Air.cut_of_off (a : Air) {ks : List OutletId} (h : ∀ k ∈ ks, a.pulses[k] = none) : a.cut ks = a := by
  have hp : (Vector.ofFn fun k : OutletId => if k ∈ ks then none else a.pulses[k]) = a.pulses := by
    apply Vector.ext
    intro i hi
    by_cases hk : (⟨i, hi⟩ : OutletId) ∈ ks
    · simpa [hk] using (h _ hk).symm
    · simp [hk]
  have hc : (ks.countP fun k => a.pulses[k].isSome) = 0 := by
    rw [List.countP_eq_zero]
    intro k hk
    simp [h k hk]
  simp only [Air.cut, hp, hc]
  simp

theorem Air.cut_cons (a : Air) {k : OutletId} {ks : List OutletId} (hk : k ∉ ks) :
    (a.cut [k]).cut ks = a.cut (k :: ks) := by
  have hcount : (ks.countP fun j => (a.cut [k]).pulses[j].isSome) = ks.countP fun j => a.pulses[j].isSome := by
    apply List.countP_congr
    intro j hj
    have hjk : j ≠ k := fun e => hk (e ▸ hj)
    simp [Air.cut, hjk]
  have hpulses : (Vector.ofFn fun j => if j ∈ ks then none else (a.cut [k]).pulses[j]) =
      Vector.ofFn fun j => if j ∈ k :: ks then none else a.pulses[j] := by
    congr 1
    funext j
    by_cases hj : j ∈ ks <;> simp [Air.cut, hj]
  unfold Air.cut at hcount hpulses ⊢
  simp only [hcount, hpulses, List.countP_cons, List.countP_nil, BitVec.add_assoc, ← BitVec.ofNat_add]
  simp [Nat.add_comm]

/-- A cut of every outlet leaves no pulse and counts each that ran. -/
theorem Air.cut_all (s : State) : s.air.cut allOutlets =
    { s.air with
      pulses := Vector.replicate 12 none
      pulsesCut := s.air.pulsesCut + BitVec.ofNat 32 (energisedCount s) } := by
  have hall : ∀ k : OutletId, k ∈ allOutlets := by decide
  have hlist : s.air.pulses.toList = allOutlets.map fun k => s.air.pulses[k] := by
    have hfin : allOutlets = List.finRange 12 := by decide
    rw [hfin]
    apply List.ext_getElem
    · simp
    · simp
  have hpulses : (Vector.ofFn fun _ : OutletId => (none : Option Pulse)) = Vector.replicate 12 none := by
    apply Vector.ext
    simp
  simp only [Air.cut, hall, if_true, hpulses, energisedCount, hlist, ← List.countP_eq_length_filter, List.countP_map]
  rfl

/-- A cut of one outlet whose diverter is energised. -/
theorem Air.cut_of_energised (a : Air) {k : OutletId} {p : Pulse} (hp : a.pulses[k] = some p) :
    a.cut [k] = { a with pulses := a.pulses.set k none, pulsesCut := a.pulsesCut + 1 } := by
  have hpulses : (Vector.ofFn fun j : OutletId => if j ∈ [k] then none else a.pulses[j]) = a.pulses.set k none := by
    apply Vector.ext
    intro i hi
    rw [Vector.getElem_set]
    by_cases hik : i = k.val
    · subst hik
      simp
    · have hne : (⟨i, hi⟩ : OutletId) ≠ k := fun e => hik (congrArg Fin.val e)
      simp [hne, Ne.symm hik]
  have hcount : ([k].countP fun j => a.pulses[j].isSome) = 1 := by
    rw [List.countP_singleton, hp]
    rfl
  simp only [Air.cut, hpulses, hcount]
  rfl

theorem awaitConfirm_of_emptied (h : Emptied s) (k : OutletId) (tag : SequenceTag) : awaitConfirm k tag s = s := by
  have hq : s.outlets[k].queue = [] := h.queues k
  have houtlet : { s.outlets[k] with queue := [] } = s.outlets[k] := by rw [← hq]
  have hset : s.outlets.set k s.outlets[k] = s.outlets := Vector.set_getElem_self _
  simp only [awaitConfirm, State.onOutlet, hq, List.map_nil, houtlet, hset]

theorem presentQuietly_of_emptied (h : Emptied s) (k : OutletId) : presentQuietly k s = s := by
  have hold : oldestRequesting k s = none := by simp [oldestRequesting, h.records]
  unfold presentQuietly reconsider
  split
  · rfl
  · simp only [hold]
    exact setRequest_self (h.requests k)

/-- On an emptied belt the cut of one pulse de-energises its diverter and counts, and does nothing else (R89). -/
theorem cutPulse_of_emptied (h : Emptied s) (k : OutletId) : cutPulse s k = { s with air := s.air.cut [k] } := by
  cases hp : s.air.pulses[k] with
  | none =>
    rw [Air.cut_of_off s.air (by simpa using hp)]
    simp only [cutPulse, hp]
  | some p =>
    have hoff : Emptied ((deEnergise k s).onAir fun a => { a with pulsesCut := a.pulsesCut + 1 }) :=
      ⟨h.records, h.queues, h.requests⟩
    simp only [cutPulse, hp]
    rw [awaitConfirm_of_emptied hoff, presentQuietly_of_emptied hoff, Air.cut_of_energised s.air hp]
    rfl

theorem foldl_cutPulse_of_emptied (ks : List OutletId) (hks : ks.Nodup) (h : Emptied s) :
    ks.foldl cutPulse s = { s with air := s.air.cut ks } := by
  induction ks generalizing s with
  | nil => rw [Air.cut_of_off s.air (by simp)]; rfl
  | cons k ks ih =>
    obtain ⟨hk, hks⟩ := List.nodup_cons.mp hks
    have h' : Emptied { s with air := s.air.cut [k] } := ⟨h.records, h.queues, h.requests⟩
    rw [List.foldl_cons, cutPulse_of_emptied h, ih hks h', Air.cut_cons s.air hk]

/-- On an emptied belt a cut de-energises every diverter, counts each, and does nothing else. -/
theorem cutPulses_of_emptied (h : Emptied s) : cutPulses s =
    { s with air := { s.air with
      pulses := Vector.replicate 12 none
      pulsesCut := s.air.pulsesCut + BitVec.ofNat 32 (energisedCount s) } } := by
  rw [cutPulses, foldl_cutPulse_of_emptied allOutlets (by decide) h, Air.cut_all]

/-! ## The outputs and the LINE notice in STANDBY -/

/-- In STANDBY the line is stopped and IDENT-READY low (R22, R168). -/
theorem driveOutputs_of_standby (h : s.line.state = .standby) : driveOutputs s =
    { s with
      line := { s.line with speedRef := 0, governor := .stopped }
      admission := { s.admission with identReady := false } } := by
  have hg : governorNow s = .stopped := by simp [governorNow, h, LineState.moving]
  have hi : identReadyNow s = false := by simp [identReadyNow, h, LineState.moving]
  simp [driveOutputs, hg, hi, speedReferenceOf, State.onLine, State.onAdmission]

theorem enterNotice_of_empty (n : Notice) {st : StationLink} (h : st.notices = []) :
    enterNotice n st = { st with notices := [n] } := by
  simp [enterNotice, h]

/-- The link with a notice to station 0 alone as the one notice of its set and the last frame of the queue, if its
mask enables the LINE notice. -/
def Link.lineNoticed (l : Link) (n : Notice) : Link :=
  let sent := l.stations[(0 : StationId)].mask.getLsbD 0
  { l with
    transmitQueue := l.transmitQueue ++ if sent = true then [noticeFrame 0 n] else []
    stations :=
      if sent = true then l.stations.set (0 : StationId) { l.stations[(0 : StationId)] with notices := [n] }
      else l.stations }

/-- A LINE notice raised with a place free and station 0's set empty (R173, R176, R177). -/
theorem raiseNotice_line_of_empty {old : Option LineState} {new : LineState} {cause : LineCause}
    (hroom : s.link.transmitQueue.length < 16) (hempty : s.link.stations[(0 : StationId)].notices = []) :
    raiseNotice (.line old new cause) s = { s with link := s.link.lineNoticed (.line old new cause) } := by
  have hto : raiseNotice (.line old new cause) s = noticeTo (.line old new cause) s 0 := rfl
  have hmask : noticeEnabled s.link.stations[(0 : StationId)].mask (.line old new cause) =
      s.link.stations[(0 : StationId)].mask.getLsbD 0 := rfl
  rw [hto, noticeTo, hmask, Link.lineNoticed]
  split
  · rw [State.onStation, enterNotice_of_empty _ hempty, placeNoticeFrame, if_pos hroom]
    rfl
  · rw [List.append_nil]

theorem lineNoticed_station (l : Link) (n : Notice) (a : StationId) :
    (l.lineNoticed n).stations[a] =
      if a = 0 ∧ l.stations[(0 : StationId)].mask.getLsbD 0 = true then { l.stations[a] with notices := [n] }
      else l.stations[a] := by
  unfold Link.lineNoticed
  by_cases hsent : l.stations[(0 : StationId)].mask.getLsbD 0 = true
  · simp only [hsent, if_true, stations_get, and_true]
    by_cases ha : a = 0
    · subst ha; rfl
    · simp only [if_neg ha]
  · simp only [hsent, and_false, if_false, Bool.false_eq_true]

/-- The state INITIALIZE leaves before it answers: the belt emptied, the pulses cut and the blocks reset (R166). -/
def State.emptiedAndReset (rest : List Request) (s : State) : State :=
  { s with
    sensing := s.sensing.initialized s.now
    admission := { s.admission with
      entries := []
      captureQueue := []
      framing := .hunting
      frameTimer := none
      pendingAbandoned := s.admission.pendingAbandoned + BitVec.ofNat 32 s.admission.entries.length }
    track := { s.track with records := [], abandoned := s.track.abandoned + BitVec.ofNat 32 (itemsHeld s) }
    timing := Vector.ofFn fun k => { s.timing[k] with lead := 0 }
    air := { s.air with
      rotationMark := 0
      airWait := false
      requests := Vector.replicate 12 none
      pulses := Vector.replicate 12 none
      pulsesCut := s.air.pulsesCut + BitVec.ofNat 32 (energisedCount s) }
    outlets := Vector.ofFn fun k => { s.outlets[k] with masked := true, consecutive := 0, queue := [] }
    channels := Vector.ofFn fun c => s.channels[c].initialized
    line := { s.line with state := .standby, airCopy := false, resCopy := false }
    link := Link.initialized { s.link with receiveQueue := rest } }

theorem initializeBlocks_of_emptied (rest : List Request) (s : State) :
    initializeBlocks (cutPulses (discardItems ((s.unanswered rest).onLine fun l =>
      { l with state := .standby, airCopy := false, resCopy := false }))) = s.emptiedAndReset rest := by
  rw [cutPulses_of_emptied (discardItems_emptied _)]
  simp [initializeBlocks, discardItems, State.emptiedAndReset, State.unanswered, itemsHeld, energisedCount,
    State.onSensing, State.onAdmission, State.onTimings, State.onAir, State.onOutlets, State.onChannels, State.onLink]

/-- The link INITIALIZE leaves: its own queues and sets reset, then the answer and the LINE notice. -/
def State.initializedLink (tag : Byte) (rest : List Request) (s : State) : Link :=
  let l := Link.initialized { s.link with receiveQueue := rest }
  Link.lineNoticed { l with transmitQueue := l.transmitQueue ++ [answer 0 0x05 tag .done noResults] }
    (.line (some s.line.state) .standby .initialize_)

theorem initialized_station (l : Link) (a : StationId) :
    l.initialized.stations[a] = { mask := l.stations[a].mask, notices := [], lost := false } :=
  Vector.getElem_ofFn _

theorem initialized_transmitQueue_length (l : Link) : l.initialized.transmitQueue.length ≤ 1 := by
  unfold Link.initialized
  split <;> simp

theorem handleInitialize_eq (tag : Byte) (rest : List Request) (s : State) :
    handleInitialize { station := 0, data := [0x05, tag] } (s.unanswered rest) =
      driveOutputs { s.emptiedAndReset rest with link := s.initializedLink tag rest } := by
  have hroom := initialized_transmitQueue_length { s.link with receiveQueue := rest }
  simp only [handleInitialize]
  rw [initializeBlocks_of_emptied, raiseNotice_line_of_empty]
  · rfl
  · show (_ ++ [_]).length < 16
    rw [List.length_append]
    exact Nat.lt_of_le_of_lt (Nat.add_le_add_right hroom 1) (by decide)
  · exact congrArg StationLink.notices (initialized_station _ 0)

section
variable (tag : Byte) (rest : List Request) (s : State)

theorem initializedLink_transmitQueue : (s.initializedLink tag rest).transmitQueue =
    (if s.link.transmitting = true then s.link.transmitQueue.take 1 else []) ++
      answer 0 0x05 tag .done noResults ::
        (if s.link.stations[(0 : StationId)].mask.getLsbD 0 = true then
          [noticeFrame 0 (.line (some s.line.state) .standby .initialize_)] else []) := by
  simp only [State.initializedLink, Link.lineNoticed, initialized_station, List.append_assoc, List.singleton_append]
  rfl

theorem initializedLink_station (a : StationId) :
    (s.initializedLink tag rest).stations[a] =
      { mask := s.link.stations[a].mask
        notices :=
          if a = 0 ∧ s.link.stations[(0 : StationId)].mask.getLsbD 0 = true then
            [.line (some s.line.state) .standby .initialize_] else []
        lost := false } := by
  rw [State.initializedLink, lineNoticed_station]
  simp only [initialized_station]
  split <;> rfl

end

end Sys2Proof.Machine

open Sys2Proof Sys2Proof.Machine

/-- Settles O2, by reading the values off `State.powerOn`. -/
theorem powerOnSetsEveryBlock : Obligations.PowerOnSetsEveryBlock := by
  refine ⟨fun p e s => ⟨_, rfl, rfl, rfl, rfl, rfl, fun k => ?_, rfl, rfl, fun k => ?_, fun r => ⟨?_, fun c => ?_⟩,
    powerOn_channels, fun c => ⟨?_, fun f => ⟨?_, ?_⟩⟩, rfl, rfl, rfl, rfl, rfl, rfl, rfl, rfl, powerOn_stations,
    rfl, rfl⟩, rfl⟩
  · simp [State.powerOn, OutletTiming.powerOn]
  · simp [State.powerOn, Outlet.powerOn]
  · simp [State.powerOn, RouteRow.powerOn]
  · simp [State.powerOn, RouteRow.powerOn]
  · simp [State.powerOn, Balance.powerOn]
  · simp [State.powerOn, Balance.powerOn]
  · simp [State.powerOn, Balance.powerOn]

/-- Settles O51: a cut on the belt that INITIALIZE has emptied stops the pulses alone, and the one notice finds
station 0's set empty and the transmit queue short. -/
theorem initializeResetsTheBlocks : Obligations.InitializeResetsTheBlocks := by
  intro tag rest s h
  have hexec : exec .initializeLine s =
      .next (driveOutputs { s.emptiedAndReset rest with link := s.initializedLink tag rest }) := by
    rw [← handleInitialize_eq]
    exact congrArg Host.Outcome.next (takeRequest_asked (code := 0x05) h handleInitialize rfl fun _ => rfl)
  rw [driveOutputs_of_standby rfl] at hexec
  refine ⟨_, hexec, ?_⟩
  refine ⟨rfl, rfl, rfl, fun k => Vector.getElem_ofFn _, rfl, fun k => Vector.getElem_ofFn _,
    fun c => Vector.getElem_ofFn _, rfl, ⟨rfl, rfl, initializedLink_transmitQueue tag rest s, rfl, rfl, rfl, rfl,
      fun a => ?stations⟩, rfl, rfl, rfl, rfl, rfl, rfl⟩
  show (s.initializedLink tag rest).stations[a].mask = _ ∧ (s.initializedLink tag rest).stations[a].lost = _ ∧
    (s.initializedLink tag rest).stations[a].notices = _
  rw [initializedLink_station]
  exact ⟨rfl, rfl, rfl⟩
end

section
/-! SUPPORT. The end of an event: the outputs driven by the governor's table, and the drain completion test (R22, R161,
R168). -/

namespace Sys2Proof.Machine

open Sys2Proof

variable {s t : State}

theorem stoppedCondition_driveOutputs : StoppedCondition (driveOutputs s) ↔ StoppedCondition s := Iff.rfl

theorem slowCondition_driveOutputs : SlowCondition (driveOutputs s) ↔ SlowCondition s := Iff.rfl

/-- The outputs are those of the table right after they are driven. -/
theorem outputsDriven_driveOutputs (s : State) : OutputsDriven (driveOutputs s) := by
  have hgov : (driveOutputs s).line.governor = governorNow s ∧
      (driveOutputs s).line.speedRef = speedReferenceOf s.line (governorNow s) := ⟨rfl, rfl⟩
  unfold OutputsDriven
  rw [hgov.1, hgov.2, stoppedCondition_driveOutputs, slowCondition_driveOutputs, stoppedCondition_iff,
    slowCondition_iff]
  refine ⟨fun hstop => ?_, fun hstop hslow => ?_, fun hstop hslow => ?_, identReadyNow_iff s⟩
  · simp only [governorNow, if_pos hstop, speedReferenceOf, and_self]
  · simp only [governorNow, if_neg hstop, if_pos hslow, speedReferenceOf, true_and]
    rfl
  · simp only [governorNow, if_neg hstop, if_neg hslow, speedReferenceOf, true_and]
    rfl

/-- Nothing is carried or followed: the pending list, the track and every confirm queue are empty. -/
structure BeltEmpty (s : State) : Prop where
  entries : s.admission.entries = []
  records : s.track.records = []
  queues : ∀ k : OutletId, s.outlets[k].queue = []

theorem queuesEmpty_iff (s : State) : queuesEmpty s = true ↔ ∀ k : OutletId, s.outlets[k].queue = [] := by
  simp only [queuesEmpty, List.all_eq_true, Vector.mem_toList_iff, List.isEmpty_iff]
  constructor
  · exact fun h k => h _ (Vector.getElem_mem _)
  · intro h o ho
    obtain ⟨i, hi, rfl⟩ := Vector.mem_iff_getElem.1 ho
    exact h ⟨i, hi⟩

/-- The drain is complete in DRAIN on an empty belt (R161). -/
theorem drainComplete_iff (s : State) : drainComplete s = true ↔ s.line.state = .drain ∧ BeltEmpty s := by
  simp only [drainComplete, Bool.and_eq_true, beq_iff_eq, List.isEmpty_iff, queuesEmpty_iff]
  constructor
  · rintro ⟨⟨⟨hl, he⟩, hr⟩, hq⟩
    exact ⟨hl, he, hr, hq⟩
  · rintro ⟨hl, he, hr, hq⟩
    exact ⟨⟨⟨hl, he⟩, hr⟩, hq⟩

/-- A completed drain moves the line to STANDBY and cuts before the outputs are driven. -/
theorem settleLine_of_complete (hl : s.line.state = .drain) (he : BeltEmpty s) : settleLine s =
    driveOutputs (cutPulses (raiseNotice (.line (some .drain) .standby .drainDone)
      (s.onLine fun l => { l with state := .standby }))) := by
  rw [settleLine, testDrain, if_pos ((drainComplete_iff s).2 ⟨hl, he⟩), moveLine, hl]

theorem settleLine_of_not_complete (h : ¬ (s.line.state = .drain ∧ BeltEmpty s)) : settleLine s = driveOutputs s := by
  rw [settleLine, testDrain, if_neg fun hd => h ((drainComplete_iff s).1 hd)]

end Sys2Proof.Machine

open Sys2Proof Sys2Proof.Machine

/-- Settles O16: the driven outputs by the table's rows, and the completion test by what it asks. -/
theorem eventEndsWithDrainTestAndOutputs : Obligations.EventEndsWithDrainTestAndOutputs := by
  refine ⟨fun s => ⟨outputsDriven_driveOutputs s, rfl⟩, fun s => driveOutputs_of_driven, fun s hl he hr hq => ?_,
    fun s h => ?_⟩
  · exact settleLine_of_complete hl ⟨he, hr, hq⟩
  · exact settleLine_of_not_complete fun ⟨hl, he, hr, hq⟩ => h ⟨hl, he, hr, hq⟩
end

section
/-! SUPPORT. What an event leaves of the inputs of the outputs, and what it keeps of an empty belt: an event either
leaves every input alone or ends in driving the outputs (R22, R168, section 10.1). -/

namespace Sys2Proof.Machine

open Sys2Proof

variable {s t u : State}

/-! ## Changes that leave every input of the outputs -/

/-- A change that leaves the inputs of the outputs, the outputs themselves, and every confirm queue. -/
structure Quiet (s t : State) : Prop where
  line : t.line = s.line
  records : t.track.records = s.track.records
  requests : t.air.requests = s.air.requests
  entries : t.admission.entries.length = s.admission.entries.length
  ident : t.admission.identReady = s.admission.identReady
  queues : ∀ k : OutletId, t.outlets[k].queue = s.outlets[k].queue

/-- An outlet that was not accepting loses nothing (R96). -/
theorem reportLoss_unread (pres : OutletId → State → State) (k : OutletId) (s : State) :
    reportLoss pres k false s = s := by simp [reportLoss]

namespace Quiet

/-- A change of other blocks than the line, the track, the Air Arbiter, the Admission Unit and the outlets. -/
theorem of_blocks (hl : t.line = s.line) (ht : t.track = s.track) (ha : t.air = s.air)
    (hd : t.admission = s.admission) (ho : t.outlets = s.outlets) : Quiet s t := by
  refine ⟨hl, ?_, ?_, ?_, ?_, fun k => ?_⟩ <;> simp only [ht, ha, hd, ho]

theorem refl (s : State) : Quiet s s := of_blocks rfl rfl rfl rfl rfl

theorem trans (h : Quiet s t) (g : Quiet t u) : Quiet s u where
  line := g.line.trans h.line
  records := g.records.trans h.records
  requests := g.requests.trans h.requests
  entries := g.entries.trans h.entries
  ident := g.ident.trans h.ident
  queues k := (g.queues k).trans (h.queues k)

theorem onAdmission (f : Admission → Admission)
    (he : (f s.admission).entries.length = s.admission.entries.length)
    (hi : (f s.admission).identReady = s.admission.identReady) : Quiet s (s.onAdmission f) :=
  ⟨rfl, rfl, rfl, he, hi, fun _ => rfl⟩

theorem onLink (f : Link → Link) (s : State) : Quiet s (s.onLink f) := of_blocks rfl rfl rfl rfl rfl

theorem onOutlet (k : OutletId) (f : Outlet → Outlet) (hq : (f s.outlets[k]).queue = s.outlets[k].queue) :
    Quiet s (s.onOutlet k f) := by
  refine ⟨rfl, rfl, rfl, rfl, rfl, fun j => ?_⟩
  rw [State.onOutlet_get]
  split
  · next hj => subst hj; exact hq
  · rfl

theorem raiseNotice (n : Notice) (s : State) : Quiet s (raiseNotice n s) := by
  obtain ⟨l, -, h⟩ := raiseNotice_onLink n s
  rw [h]
  exact of_blocks rfl rfl rfl rfl rfl

theorem respond (q : Request) (status : Status) (results : List Byte) (s : State) :
    Quiet s (respond q status results s) := of_blocks rfl rfl rfl rfl rfl

theorem outputsDriven (h : Quiet s t) (ho : OutputsDriven s) : OutputsDriven t := by
  have hstop : StoppedCondition t ↔ StoppedCondition s := by
    simp only [StoppedCondition, h.line, h.records, h.requests]
  have hslow : SlowCondition t ↔ SlowCondition s := by
    simp only [SlowCondition, h.line, h.records, h.entries]
  simpa only [OutputsDriven, hstop, hslow, h.line, h.entries, h.ident] using ho

theorem takeEdge {input : GateInput} {rising : Bool} {e : FilteredEdge}
    (he : takeEdge input rising s = some (e, t)) : Quiet s t := by
  obtain ⟨-, -, others, -, rfl⟩ := takeEdge_some he
  exact of_blocks rfl rfl rfl rfl rfl

theorem oldestRequest {isFor : Request → Bool} {places : Nat} {q : Request}
    (ho : oldestRequest isFor places s = some (q, t)) : Quiet s t := by
  unfold Machine.oldestRequest at ho
  split at ho
  · cases ho
  · split at ho
    · cases ho
      exact of_blocks rfl rfl rfl rfl rfl
    · cases ho

theorem handOnOverflow (i : Nat) (n : DeviceCount) (s : State) : Quiet s (handOnOverflow i n s) := by
  unfold Machine.handOnOverflow overflowOccurrence
  split
  · split
    · exact (onLink _ s).trans (.raiseNotice _ _)
    · exact .refl s
  · exact .refl s

theorem changeAccount (c f : Fin 6) (g : Accumulator → Accumulator) (s : State) :
    Quiet s (changeAccount c f g s) := by
  have hw : Quiet s (writeAccount c f (evaluateAbove (thresholdOf c f s) (g (accountOf c f s))) s) :=
    of_blocks rfl rfl rfl rfl rfl
  unfold Machine.changeAccount noticeBalance
  dsimp only
  split
  · exact hw.trans (.raiseNotice _ _)
  · exact hw

/-! ### Outlets whose acceptance is not lost -/

theorem enterFull (k : OutletId) (s : State) : Quiet s (enterFull k false s) := by
  unfold Machine.enterFull
  dsimp only
  rw [reportLoss_unread]
  exact (onOutlet k _ rfl).trans (.raiseNotice _ _)

theorem enterJam (k : OutletId) (s : State) : Quiet s (enterJam k false s) := by
  unfold Machine.enterJam
  dsimp only
  rw [reportLoss_unread]
  exact (onOutlet k _ rfl).trans (.raiseNotice _ _)

theorem openOrJam {k : OutletId} (h : s.outlets[k].state ≠ .opened) : Quiet s (openOrJam k s) := by
  unfold Machine.openOrJam
  rw [accepting_eq_false (.inl h)]
  split
  · exact .enterJam k s
  · exact .onOutlet k _ rfl

theorem freshCrate {k : OutletId} (h : s.outlets[k].state ≠ .opened) : Quiet s (freshCrate k s) := by
  refine (onOutlet k (fun o => { o with currentCount := o.baseCount }) rfl).trans (openOrJam ?_)
  rw [State.onOutlet_get, if_pos rfl]
  exact h

theorem placeCrate (k : OutletId) (s : State) : Quiet s (placeCrate k s) := by
  unfold Machine.placeCrate
  dsimp only
  split
  · next hw =>
    split
    · exact .freshCrate (by rw [hw.2]; simp)
    · exact .onOutlet k _ rfl
  · exact .refl s

theorem enterByMode (k : OutletId) (s : State) : Quiet s (enterByMode k s) := by
  unfold Machine.enterByMode enterByCrate
  split
  · split
    · split
      · exact .enterFull k s
      · exact .onOutlet k _ rfl
    · exact .onOutlet k _ rfl
  · exact .onOutlet k _ rfl

theorem enterPlaced (k : OutletId) (before : OutletState) (modeBefore : OutletMode) (s : State) :
    Quiet s (enterPlaced k before modeBefore s) := by
  have hm : Quiet s (if s.outlets[k].mode = modeBefore then s
      else Machine.enterByMode k (s.onOutlet k fun o => { o with consecutive := 0 })) := by
    split
    · exact .refl s
    · exact (onOutlet k _ rfl).trans (.enterByMode k _)
  unfold Machine.enterPlaced
  split
  · exact .refl s
  · exact .enterByMode k s
  all_goals exact hm

theorem placeOutlet (k : OutletId) (p : Placement) (s : State) : Quiet s (placeOutlet k p s) := by
  unfold Machine.placeOutlet
  extract_lets o s1 s2
  have h1 : Quiet s s1 := trans (t := writeTiming k p s) (of_blocks rfl rfl rfl rfl rfl) (onOutlet k _ rfl)
  have h2 : Quiet s s2 := by
    simp only [s2]
    split
    · exact h1
    · exact h1.trans (of_blocks rfl rfl rfl rfl rfl)
  exact (h2.trans (.onLink _ s2)).trans (.enterPlaced k _ _ _)

end Quiet

/-! ## What diversions and admissions leave -/

theorem reconsider_outlets (k : OutletId) (s : State) : (reconsider k s).1.outlets = s.outlets := by
  unfold reconsider
  split
  · rfl
  · split
    · rfl
    · split <;> rfl

theorem recordOf_of_empty (h : s.track.records = []) (tag : SequenceTag) : recordOf tag s = none := by
  rw [recordOf, h]
  rfl

/-- With no record on the track a grant puts no entry in a confirm queue. -/
theorem grantOne_outlets_of_empty (h : s.track.records = []) : (grantOne s).outlets = s.outlets := by
  unfold grantOne
  split
  · split
    · rfl
    · unfold grant
      split
      · rfl
      · rw [recordOf_of_empty h]
        rfl
  · rfl

theorem examine_outlets_of_empty (h : s.track.records = []) : (examine s).outlets = s.outlets := by
  have h1 : (grantOne s).track.records = [] :=
    List.length_eq_zero_iff.1 (Nat.le_zero.1 (by simpa [h] using grantOne_records_le s))
  rw [examine, grantOne_outlets_of_empty h1, grantOne_outlets_of_empty h]

theorem reportLoss_of_empty (h : s.track.records = []) (pres : OutletId → State → State) (k : OutletId)
    (before : Bool) : reportLoss pres k before s = s := by
  unfold reportLoss lossOfAcceptance
  rw [h]
  split <;> rfl

theorem returnItem_line (owner : StationId) (wareClass : WareClass) (s : State) :
    (returnItem owner wareClass s).line = s.line := by
  unfold returnItem
  split
  · exact (Quiet.changeAccount ..).line
  · rfl

theorem admitItem_line (leading : Position) (footprint : Nat) (identity : Identity) (s : State) :
    (admitItem leading footprint identity s).line = s.line := by
  unfold admitItem
  dsimp only
  rw [returnItem_line, (evaluateRecord_diversion _ _).line]
  rfl

theorem letGo_line (e : PendingEntry) (rest : List PendingEntry) (s : State) : (letGo e rest s).line = s.line := by
  unfold letGo
  dsimp only
  split
  · unfold admitEntry
    dsimp only
    split <;> rw [admitItem_line] <;> split <;> rfl
  · exact (Quiet.handOnOverflow ..).line

theorem examineHeads_line (n : Nat) (s : State) : (examineHeads n s).line = s.line := by
  induction n generalizing s with
  | zero => rfl
  | succ n ih =>
    unfold examineHeads
    split
    · rfl
    · split
      · rw [ih, letGo_line]
      · rfl

theorem discardHeads_line (n : Nat) (s : State) : (discardHeads n s).line = s.line := by
  induction n generalizing s with
  | zero => rfl
  | succ n ih =>
    unfold discardHeads
    split
    · rfl
    · split
      · rw [ih]
        rfl
      · rfl

theorem admissionAdvance_line (s : State) : (admissionAdvance s).line = s.line := by
  unfold admissionAdvance
  split
  · exact examineHeads_line _ s
  · exact examineHeads_line _ s
  · exact discardHeads_line _ s
  · rfl

theorem retireHead_line (r : TrackRecord) (rest : List TrackRecord) (s : State) :
    (retireHead r rest s).line = s.line := by
  unfold retireHead
  extract_lets s1
  split
  · rw [((withdraw_diversion _ r.tag s1).trans (present_diversion _ _)).line]
    rfl
  · rfl

theorem retireHeads_line (n : Nat) (s : State) : (retireHeads n s).line = s.line := by
  induction n generalizing s with
  | zero => rfl
  | succ n ih =>
    unfold retireHeads
    split
    · rfl
    · split
      · rw [ih, retireHead_line]
      · rfl

/-! ## Changes that keep an empty belt -/

theorem standbyHoldsNothing_iff (s : State) :
    StandbyHoldsNothing s ↔ (s.line.state = .standby → BeltEmpty s) :=
  ⟨fun h hl => ⟨(h hl).1, (h hl).2.1, (h hl).2.2⟩, fun h hl => ⟨(h hl).entries, (h hl).records, (h hl).queues⟩⟩

/-- A change that does not bring the line to STANDBY and puts nothing on an empty belt. -/
structure StandbyKept (s t : State) : Prop where
  state : t.line.state = .standby → s.line.state = .standby
  empty : BeltEmpty s → BeltEmpty t

theorem Quiet.standbyKept (h : Quiet s t) : StandbyKept s t where
  state hl := by rwa [h.line] at hl
  empty he :=
    ⟨List.length_eq_zero_iff.1 (by rw [h.entries, he.entries]; rfl), h.records.trans he.records,
      fun k => (h.queues k).trans (he.queues k)⟩

namespace StandbyKept

theorem refl (s : State) : StandbyKept s s := ⟨id, id⟩

theorem trans (h : StandbyKept s t) (g : StandbyKept t u) : StandbyKept s u :=
  ⟨fun hl => h.state (g.state hl), fun he => g.empty (h.empty he)⟩

theorem foldl {α : Type} {f : State → α → State} (hf : ∀ s a, StandbyKept s (f s a)) :
    ∀ (l : List α) (s : State), StandbyKept s (l.foldl f s)
  | [], s => refl s
  | a :: l, s => (hf s a).trans (foldl hf l (f s a))

theorem holdsNothing (h : StandbyKept s t) (hs : StandbyHoldsNothing s) : StandbyHoldsNothing t := by
  rw [standbyHoldsNothing_iff] at hs ⊢
  exact fun hl => h.empty (hs (h.state hl))

theorem of_blocks (hl : t.line.state = s.line.state) (ha : t.admission.entries = s.admission.entries)
    (hr : t.track.records = s.track.records) (ho : t.outlets = s.outlets) : StandbyKept s t :=
  ⟨fun h => hl ▸ h, fun ⟨he, hs, hq⟩ => ⟨ha.trans he, hr.trans hs, by rwa [ho]⟩⟩

theorem onOutlet (k : OutletId) (f : Outlet → Outlet)
    (hq : s.outlets[k].queue = [] → (f s.outlets[k]).queue = []) : StandbyKept s (s.onOutlet k f) := by
  refine ⟨id, fun ⟨he, hs, h⟩ => ⟨he, hs, fun j => ?_⟩⟩
  rw [State.onOutlet_get]
  split
  · next hj => subst hj; exact hq (h j)
  · exact h j

theorem onLine (f : Line → Line) (hf : (f s.line).state = s.line.state) : StandbyKept s (s.onLine f) :=
  of_blocks hf rfl rfl rfl

theorem raiseNotice (n : Notice) (s : State) : StandbyKept s (raiseNotice n s) := (Quiet.raiseNotice n s).standbyKept

/-- A move of the line to a state other than STANDBY. -/
theorem moveLine {new : LineState} (cause : LineCause) (h : new ≠ .standby) : StandbyKept s (moveLine new cause s) :=
  have hmoved : StandbyKept s (s.onLine fun l => { l with state := new }) :=
    ⟨fun hl => absurd hl h, fun ⟨he, hr, hq⟩ => ⟨he, hr, hq⟩⟩
  hmoved.trans (.raiseNotice _ _)

/-! ### Diversions: with no record on the track nothing is diverted -/

/-- A diversion on an empty track leaves the outlets alone. -/
theorem diversion (d : DiversionFrame s t) (hl : t.track.records.length ≤ s.track.records.length)
    (ho : s.track.records = [] → t.outlets = s.outlets) : StandbyKept s t where
  state h := by rwa [d.line] at h
  empty := fun ⟨he, hr, hq⟩ =>
    ⟨by rw [d.admission]; exact he, List.length_eq_zero_iff.1 (by rw [hr] at hl; exact Nat.le_zero.1 hl),
      by rwa [ho hr]⟩

theorem onAir (f : Air → Air) (s : State) : StandbyKept s (s.onAir f) := of_blocks rfl rfl rfl rfl

theorem presentQuietly (k : OutletId) (s : State) : StandbyKept s (presentQuietly k s) :=
  diversion (presentQuietly_diversion k s) (shortens_presentQuietly k s) fun _ => reconsider_outlets k s

theorem examine (s : State) : StandbyKept s (examine s) :=
  diversion (examine_diversion s) (examine_records_le s) examine_outlets_of_empty

theorem present (k : OutletId) (s : State) : StandbyKept s (present k s) := by
  have hr : StandbyKept s (reconsider k s).1 := presentQuietly k s
  unfold Machine.present
  dsimp only
  split
  · exact hr.trans (.examine _)
  · exact hr

theorem reportLoss (k : OutletId) (before : Bool) (s : State) :
    StandbyKept s (reportLoss Machine.present k before s) :=
  diversion (reportLoss_diversion present_diversion k before s) (shortens_present.reportLoss k before s)
    fun h => by rw [reportLoss_of_empty h]

theorem evaluateTrack (s : State) : StandbyKept s (evaluateTrack s) where
  state h := by rwa [(evaluateTrack_diversion s).line] at h
  empty h := by rwa [Machine.evaluateTrack, h.records]

theorem retireHeads (n : Nat) (s : State) : StandbyKept s (retireHeads n s) where
  state h := by rwa [retireHeads_line] at h
  empty h := by
    cases n with
    | zero => exact h
    | succ n => rwa [Machine.retireHeads, h.records]

theorem trackAdvance (s : State) : StandbyKept s (trackAdvance s) := (evaluateTrack s).trans (retireHeads _ _)

/-! ### Admission: with no entry pending none is admitted -/

theorem examineHead (s : State) : StandbyKept s (examineHead s) where
  state h := by
    unfold Machine.examineHead at h
    split at h
    · rwa [examineHeads_line] at h
    · exact h
  empty h := by
    unfold Machine.examineHead
    rw [h.entries]
    split <;> exact h

theorem admissionAdvance (s : State) : StandbyKept s (admissionAdvance s) where
  state h := by rwa [admissionAdvance_line] at h
  empty h := by rwa [admissionAdvance_of_idle (.inr h.entries)]

theorem inEitherOrder {first second : State → State} (hf : ∀ s, StandbyKept s (first s))
    (hg : ∀ s, StandbyKept s (second s)) (s : State) : StandbyKept s (inEitherOrder first second s) := by
  have h1 : StandbyKept s (s.onDraws (· + 1)) := of_blocks rfl rfl rfl rfl
  unfold Machine.inEitherOrder inOrder
  split
  · exact h1.trans ((hg _).trans (hf _))
  · exact h1.trans ((hf _).trans (hg _))

/-! ### Pulses, cuts and halts -/

theorem awaitConfirm (k : OutletId) (tag : SequenceTag) (s : State) : StandbyKept s (awaitConfirm k tag s) :=
  onOutlet k _ fun hq => by rw [hq]; rfl

theorem cutPulse (s : State) (k : OutletId) : StandbyKept s (cutPulse s k) := by
  unfold Machine.cutPulse
  split
  · exact .refl s
  · next p _ =>
    have hoff := (onAir (fun a => { a with pulses := a.pulses.set k none }) s).trans
      (onAir (fun a => { a with pulsesCut := a.pulsesCut + 1 }) _)
    exact hoff.trans ((awaitConfirm k p.tag _).trans (presentQuietly k _))

theorem cutPulses (s : State) : StandbyKept s (cutPulses s) := foldl cutPulse _ s

theorem haltLine (cause : LineCause) (s : State) : StandbyKept s (haltLine cause s) := by
  unfold Machine.haltLine
  split
  · next hm =>
    refine moveLine cause fun hh => ?_
    cases hl : s.line.state <;> simp_all [LineState.halted, LineState.moving]
  · exact .refl s

theorem raiseReverse (s : State) : StandbyKept s (raiseReverse s) := by
  have hn := raiseNotice (.fault s.sensing.debt s.line.state) s
  unfold Machine.raiseReverse
  dsimp only
  split
  · exact hn.trans ((haltLine _ _).trans (cutPulses _))
  · exact hn

theorem endPulse (k : OutletId) (tag : SequenceTag) (s : State) : StandbyKept s (endPulse k tag s) := by
  have hoff : StandbyKept s (deEnergise k s) := onAir _ s
  exact hoff.trans ((awaitConfirm k tag _).trans ((examine _).trans (present k _)))

/-! ### Outlets -/

theorem enterFull (k : OutletId) (before : Bool) (s : State) : StandbyKept s (enterFull k before s) :=
  (onOutlet k _ id).trans ((raiseNotice _ _).trans (reportLoss k before _))

theorem enterJam (k : OutletId) (before : Bool) (s : State) : StandbyKept s (enterJam k before s) :=
  (onOutlet k _ id).trans ((raiseNotice _ _).trans (reportLoss k before _))

theorem takePlace (k : OutletId) (before : Bool) (s : State) : StandbyKept s (takePlace k before s) := by
  have h1 : StandbyKept s (s.onOutlet k fun o => { o with currentCount := o.currentCount - 1 }) := onOutlet k _ id
  unfold Machine.takePlace
  dsimp only
  split
  · exact h1.trans (enterFull k before _)
  · exact h1

theorem crateEffect (k : OutletId) (before : Bool) (s : State) : StandbyKept s (crateEffect k before s) := by
  unfold Machine.crateEffect
  dsimp only
  split
  · exact onOutlet k _ id
  · split
    · exact onOutlet k _ id
    · exact takePlace k before s

theorem strayEvent (k : OutletId) (before : Bool) (s : State) : StandbyKept s (strayEvent k before s) := by
  have h1 : StandbyKept s (s.onOutlet k fun o => { o with stray := o.stray + 1 }) := onOutlet k _ id
  unfold Machine.strayEvent
  dsimp only
  split
  · exact h1.trans (takePlace k before _)
  · exact h1

theorem confirmationEvent (k : OutletId) (before : Bool) (s : State) :
    StandbyKept s (confirmationEvent k before s) := by
  unfold Machine.confirmationEvent
  dsimp only
  split
  · exact .refl s
  · split
    · exact strayEvent k before s
    · next e rest hq =>
      have h1 : StandbyKept s (removeSorted k rest s) := by
        refine trans (onOutlet k (fun o => { o with queue := rest, sorted := o.sorted + 1, consecutive := 0 })
          fun hn => ?_) (of_blocks rfl rfl rfl rfl)
        rw [hq] at hn
        cases hn
      split
      · exact h1.trans (crateEffect k before _)
      · exact h1

theorem timeoutHead (k : OutletId) (s : State) : StandbyKept s (timeoutHead k s) := by
  unfold Machine.timeoutHead
  extract_lets before jams s1
  have h1 : StandbyKept s s1 :=
    trans (onOutlet k (fun o =>
      { o with
        queue := o.queue.tail
        unconfirmed := o.unconfirmed + 1
        consecutive := min (o.consecutive + 1) 3 }) fun hq => by rw [hq]; rfl) (of_blocks rfl rfl rfl rfl)
  split
  · exact h1.trans (enterJam k before _)
  · exact h1

/-! ### Channels -/

theorem copyDetected (c : ChannelId) (detected : Bool) (s : State) : StandbyKept s (copyDetected c detected s) := by
  unfold Machine.copyDetected
  split
  · exact of_blocks rfl rfl rfl rfl
  · split
    · exact of_blocks rfl rfl rfl rfl
    · exact .refl s

theorem handDetection (c : ChannelId) (s : State) : StandbyKept s (handDetection c s) := by
  have h1 := copyDetected c true s
  unfold Machine.handDetection
  dsimp only
  split
  · split
    · exact h1.trans (enterFull _ _ _)
    · exact h1
  · split
    · exact h1.trans (onAir _ _)
    · exact h1

theorem handRelease (c : ChannelId) (s : State) : StandbyKept s (handRelease c s) := by
  have h1 := copyDetected c false s
  unfold Machine.handRelease
  dsimp only
  split
  · exact h1.trans ((onAir _ _).trans (examine _))
  · exact h1

theorem onChannel (c : ChannelId) (f : Channel → Channel) (s : State) : StandbyKept s (s.onChannel c f) :=
  of_blocks rfl rfl rfl rfl

theorem detection (c : ChannelId) (s : State) : StandbyKept s (detection c s) := by
  have h1 := (handDetection c s).trans
    (onChannel c (fun ch => { ch with detectionCount := ch.detectionCount + 1 }) _)
  unfold Machine.detection
  dsimp only
  split
  · exact h1.trans (raiseNotice _ _)
  · exact h1.trans (raiseNotice _ _)
  · exact h1
  · exact h1

theorem releaseVerdict (c : ChannelId) (s : State) : StandbyKept s (releaseVerdict c s) := by
  have h1 := handRelease c s
  unfold Machine.releaseVerdict
  dsimp only
  split
  · exact h1.trans (raiseNotice _ _)
  · exact h1.trans (raiseNotice _ _)
  · exact h1
  · exact h1

theorem firstVerdict (c : ChannelId) (shown : Bool) (s : State) : StandbyKept s (firstVerdict c shown s) := by
  have h1 := onChannel c (fun ch => { ch with lastVerdict := verdictOf shown }) s
  unfold Machine.firstVerdict
  dsimp only
  split
  · split
    · exact h1.trans ((onChannel c _ _).trans (detection c _))
    · exact h1.trans (onChannel c _ _)
  · exact h1.trans ((onChannel c _ _).trans (raiseNotice _ _))
  · split
    · exact h1.trans ((onChannel c _ _).trans (raiseNotice _ _))
    · exact h1.trans (onChannel c _ _)

theorem sampleFirst (c : ChannelId) (shown : Bool) (s : State) : StandbyKept s (sampleFirst c shown s) := by
  unfold Machine.sampleFirst
  dsimp only
  split
  · exact firstVerdict c _ s
  · exact onChannel c _ s

theorem sampleWatching (c : ChannelId) (shown : Bool) (s : State) : StandbyKept s (sampleWatching c shown s) := by
  unfold Machine.sampleWatching
  dsimp only
  split
  · exact onChannel c _ s
  · split
    · exact onChannel c _ s
    · split
      · exact (onChannel c _ s).trans (detection c _)
      · exact (onChannel c _ s).trans (releaseVerdict c _)

end StandbyKept

end Sys2Proof.Machine
end

section
/-! SUPPORT. Every command but power-on is made of changes that leave every input of the outputs and events that end in
driving the outputs, none of which puts anything on an empty belt in STANDBY. -/

namespace Sys2Proof.Machine

open Sys2Proof

variable {P : State → Prop} {s t u : State}

/-- The drain completion test leaves STANDBY with nothing on the belt (R161). -/
theorem testDrain_holdsNothing (h : StandbyHoldsNothing s) : StandbyHoldsNothing (testDrain s) := by
  unfold testDrain
  split
  · next hd =>
    have he : BeltEmpty s := ((drainComplete_iff s).1 hd).2
    have hmoved : BeltEmpty (s.onLine fun l => { l with state := .standby }) := ⟨he.entries, he.records, he.queues⟩
    rw [standbyHoldsNothing_iff]
    exact fun _ => ((StandbyKept.raiseNotice _ _).trans (.cutPulses _)).empty hmoved
  · exact h

theorem discardItems_beltEmpty (s : State) : BeltEmpty (discardItems s) :=
  ⟨rfl, (discardItems_emptied s).records, (discardItems_emptied s).queues⟩

theorem initializeBlocks_beltEmpty (h : BeltEmpty s) : BeltEmpty (initializeBlocks s) :=
  ⟨h.entries, h.records, fun k => by simpa [initializeBlocks] using h.queues k⟩

/-- A property that quiet changes keep, and that an event that ends in driving the outputs keeps, if it keeps the belt
empty in STANDBY. -/
structure EventClosed (P : State → Prop) : Prop where
  quiet {s t : State} : Quiet s t → P s → P t
  drive {s u : State} : (StandbyHoldsNothing s → StandbyHoldsNothing u) → P s → P (driveOutputs u)

theorem eventClosed_outputsDriven : EventClosed OutputsDriven where
  quiet h hs := h.outputsDriven hs
  drive _ _ := outputsDriven_driveOutputs _

theorem eventClosed_standbyHoldsNothing : EventClosed StandbyHoldsNothing where
  quiet h hs := h.standbyKept.holdsNothing hs
  drive h hs := h hs

namespace EventClosed

variable (h : EventClosed P)
include h

/-- A change of other blocks than the line, the track, the Air Arbiter, the Admission Unit and the outlets. -/
theorem elsewhere (hs : P s) (hl : t.line = s.line) (ht : t.track = s.track) (ha : t.air = s.air)
    (hd : t.admission = s.admission) (ho : t.outlets = s.outlets) : P t := h.quiet (.of_blocks hl ht ha hd ho) hs

theorem driven (hu : StandbyKept s u) (hs : P s) : P (driveOutputs u) := h.drive hu.holdsNothing hs

/-- An event that ends in the drain completion test and the outputs. -/
theorem settled (hu : StandbyKept s u) (hs : P s) : P (settleLine u) :=
  h.drive (fun h0 => testDrain_holdsNothing (hu.holdsNothing h0)) hs

/-- An event after which the belt is empty. -/
theorem emptied (hu : BeltEmpty u) (hs : P s) : P (driveOutputs u) :=
  h.drive (fun _ => (standbyHoldsNothing_iff u).2 fun _ => hu) hs

theorem respond (q : Request) (status : Status) (results : List Byte) (hs : P s) : P (respond q status results s) :=
  h.quiet (.respond q status results s) hs

/-! ### The encoder and the speed interval -/

theorem execEncoderEvent (p : Phases) (hs : P s) (hx : execEncoderEvent p s = .next t) : P t := by
  have h1 : P (takePhases p s) := h.elsewhere hs rfl rfl rfl rfl rfl
  unfold Machine.execEncoderEvent at hx
  split at hx
  · exact keeps_next hs hx
  · refine keeps_next ?_ hx
    unfold forwardStep
    split
    · exact h.elsewhere h1 rfl rfl rfl rfl rfl
    · have h2 : P (advancePosition (takePhases p s)) := h.elsewhere h1 rfl rfl rfl rfl rfl
      exact h.settled (.inEitherOrder .admissionAdvance .trackAdvance _) h2
  · refine keeps_next ?_ hx
    have h2 : P ((takePhases p s).onSensing fun b => { b with debt := min (b.debt + 1) 255 }) :=
      h.elsewhere h1 rfl rfl rfl rfl rfl
    unfold reverseStep
    dsimp only
    split
    · exact h.driven (.raiseReverse _) h2
    · exact h2
  · refine keeps_next ?_ hx
    exact h.elsewhere h1 rfl rfl rfl rfl rfl

theorem execSpeedIntervalClose (hs : P s) (hx : execSpeedIntervalClose s = .next t) : P t := by
  unfold Machine.execSpeedIntervalClose at hx
  split at hx
  · have h1 : P (recomputeLeads (closeInterval s)) := h.elsewhere hs rfl rfl rfl rfl rfl
    exact keeps_next (h.settled (.evaluateTrack _) h1) hx
  · exact keeps_next hs hx

/-! ### The edges of the gate inputs -/

theorem leadingEdge (position : Position) (hs : P s) : P (leadingEdge position s) := by
  unfold Machine.leadingEdge
  split
  · next hr =>
    refine h.drive (fun _ => (standbyHoldsNothing_iff _).2 fun hl => ?_) hs
    have hrun : s.line.state = .standby := hl
    rw [hr.1] at hrun
    cases hrun
  · exact h.quiet ((Quiet.onAdmission _ rfl rfl).trans (.handOnOverflow _ _ _)) hs

theorem trailingEdge (position : Position) (hs : P s) : P (trailingEdge position s) := by
  have h1 : P (s.onAdmission fun a => { a with entries := giveTrailing position a.entries }) := by
    refine h.quiet (.onAdmission _ ?_ rfl) hs
    simpa using congrArg List.length (giveTrailing_captures position s.admission.entries)
  unfold Machine.trailingEdge
  dsimp only
  split
  · exact h.settled (.examineHead _) h1
  · exact h1

theorem takeLeadingEdge (hs : P s) : P (takeLeadingEdge s) := by
  unfold Machine.takeLeadingEdge
  split
  · exact hs
  · next he => exact h.leadingEdge _ (h.quiet (.takeEdge he) hs)

theorem takeTrailingEdge (hs : P s) : P (takeTrailingEdge s) := by
  unfold Machine.takeTrailingEdge
  split
  · exact hs
  · next he => exact h.trailingEdge _ (h.quiet (.takeEdge he) hs)

theorem takeChuteRising (k : OutletId) (hs : P s) : P (takeChuteRising k s) := by
  unfold Machine.takeChuteRising
  split
  · exact hs
  · next he =>
    have h1 := h.quiet (.takeEdge he) hs
    split
    · exact h.settled (.confirmationEvent k _ _) h1
    · exact h1

theorem takeReadyRising (k : OutletId) (hs : P s) : P (takeReadyRising k s) := by
  unfold Machine.takeReadyRising
  split
  · exact hs
  · next he => exact h.quiet (.takeEdge he) hs

theorem takeReadyFalling (k : OutletId) (hs : P s) : P (takeReadyFalling k s) := by
  unfold Machine.takeReadyFalling
  split
  · exact hs
  · next he =>
    have h1 := h.quiet (.takeEdge he) hs
    split
    · exact h1
    · exact h.settled ((StandbyKept.confirmationEvent k _ _).trans (.reportLoss k _ _)) h1

theorem takeCrateFalling (k : OutletId) (hs : P s) : P (takeCrateFalling k s) := by
  unfold Machine.takeCrateFalling
  split
  · exact hs
  · next he =>
    have h1 := h.quiet (.takeEdge he) hs
    unfold removeCrate
    dsimp only
    split
    · exact h.driven ((StandbyKept.onOutlet k _ id).trans (.reportLoss k _ _)) h1
    · exact h1

theorem takeCrateRising (k : OutletId) (hs : P s) : P (takeCrateRising k s) := by
  unfold Machine.takeCrateRising
  split
  · exact hs
  · next he => exact h.quiet ((Quiet.takeEdge he).trans (.placeCrate k _)) hs

theorem handOldest (hs : P s) : P (handOldest s) := by
  unfold Machine.handOldest
  split
  · exact hs
  · split
    · exact h.takeLeadingEdge hs
    · exact h.takeTrailingEdge hs
    · exact h.takeChuteRising _ hs
    · exact h.elsewhere hs rfl rfl rfl rfl rfl
    · exact h.takeCrateRising _ hs
    · exact h.takeCrateFalling _ hs
    · exact h.takeReadyRising _ hs
    · exact h.takeReadyFalling _ hs

theorem handEdges (n : Nat) (hs : P s) : P (handEdges n s) := by
  induction n generalizing s with
  | zero => exact hs
  | succ n ih => exact ih (h.handOldest hs)

/-! ### The Identity Port -/

theorem matchRecord (capture : CaptureNumber) (identity : Identity) (hs : P s) :
    P (matchRecord capture identity s) := by
  have h1 : P (attachRecord capture identity s) := h.quiet (.onAdmission _ (List.length_map ..) rfl) hs
  unfold Machine.matchRecord
  split
  · exact h.quiet (.onAdmission _ rfl rfl) hs
  · split
    · exact h.quiet (.onAdmission _ rfl rfl) hs
    · dsimp only
      split
      · exact h.settled (.examineHead _) h1
      · exact h1

theorem discardFrame (hs : P s) : P (discardFrame s) :=
  h.quiet (.onAdmission _ rfl rfl) (h.quiet (.onAdmission _ rfl rfl) hs)

theorem takeByte (value : Byte) (framingError : Bool) (hs : P s) : P (takeByte value framingError s) := by
  have hc : ∀ bytes, P (collect bytes s) := fun bytes => h.quiet (.onAdmission _ rfl rfl) hs
  unfold Machine.takeByte
  split
  · split
    · exact hc _
    · exact hs
  · split
    · exact h.discardFrame hs
    · split
      · exact hc _
      · have h1 : P (hunt s) := h.quiet (.onAdmission _ rfl rfl) hs
        unfold completeRecord
        split
        · exact h.quiet (.onAdmission _ rfl rfl) h1
        · exact h.matchRecord _ _ h1

/-! ### Expiries -/

theorem execFrameTimerExpiry (hs : P s) (hx : execFrameTimerExpiry s = .next t) : P t := by
  unfold Machine.execFrameTimerExpiry at hx
  split at hx
  · exact keeps_next hs hx
  · split at hx
    · exact keeps_next (h.discardFrame hs) hx
    · exact keeps_next hs hx

theorem execCaptureMessageBegin (hs : P s) (hx : execCaptureMessageBegin s = .next t) : P t := by
  unfold Machine.execCaptureMessageBegin at hx
  split at hx
  · exact keeps_next (h.quiet (.onAdmission _ rfl rfl) hs) hx
  · exact keeps_next hs hx

theorem execPulseEnd (k : OutletId) (hs : P s) (hx : execPulseEnd k s = .next t) : P t := by
  unfold Machine.execPulseEnd at hx
  split at hx
  · exact keeps_next hs hx
  · split at hx
    · exact keeps_next (h.settled (.endPulse k _ s) hs) hx
    · exact keeps_next hs hx

theorem execConfirmTimeout (k : OutletId) (hs : P s) (hx : execConfirmTimeout k s = .next t) : P t := by
  unfold Machine.execConfirmTimeout at hx
  split at hx
  · exact keeps_next hs hx
  · split at hx
    · exact keeps_next (h.settled (.timeoutHead k s) hs) hx
    · exact keeps_next hs hx

theorem onChannel (c : ChannelId) (f : Channel → Channel) (hs : P s) : P (s.onChannel c f) :=
  h.elsewhere hs rfl rfl rfl rfl rfl

theorem execSettleTimeExpiry (c : ChannelId) (hs : P s) (hx : execSettleTimeExpiry c s = .next t) : P t := by
  unfold Machine.execSettleTimeExpiry at hx
  split at hx
  · split at hx
    · exact keeps_next (h.onChannel c _ (h.onChannel c _ hs)) hx
    · exact keeps_next hs hx
  · exact keeps_next hs hx

theorem execChannelSample (c : ChannelId) (above : Bool) (hs : P s) (hx : execChannelSample c above s = .next t) :
    P t := by
  have h1 : P (scheduleSample c s) := h.onChannel c _ hs
  unfold Machine.execChannelSample at hx
  split at hx
  · exact keeps_next hs hx
  · split at hx
    · split at hx
      · exact keeps_next (h.driven (.sampleFirst c _ _) h1) hx
      · exact keeps_next (h.driven (.sampleWatching c _ _) h1) hx
      · exact keeps_next hs hx
      · exact keeps_next hs hx
    · exact keeps_next hs hx

/-! ### The link -/

theorem onLink (f : Link → Link) (hs : P s) : P (s.onLink f) := h.quiet (.onLink f s) hs

theorem execFrameArrival (frame : CanFrame) (remote : Bool) (hs : P s)
    (hx : execFrameArrival frame remote s = .next t) : P t := by
  unfold Machine.execFrameArrival at hx
  split at hx
  · exact keeps_next hs hx
  · split at hx
    · exact keeps_next hs hx
    · refine keeps_next ?_ hx
      unfold receiveRequest
      split
      · exact h.onLink _ hs
      · exact h.onLink _ hs

theorem execFrameTransmitted (hs : P s) (hx : execFrameTransmitted s = .next t) : P t := by
  unfold Machine.execFrameTransmitted at hx
  split at hx
  · exact keeps_next (h.onLink _ hs) hx
  · exact keeps_next hs hx

theorem execFrameTransmissionBegin (hs : P s) (hx : execFrameTransmissionBegin s = .next t) : P t := by
  unfold Machine.execFrameTransmissionBegin at hx
  split at hx
  · exact keeps_next hs hx
  · exact keeps_next (h.onLink _ hs) hx

theorem execUnassignedRequestCode (hs : P s) (hx : execUnassignedRequestCode s = .next t) : P t := by
  unfold Machine.execUnassignedRequestCode at hx
  split at hx
  · exact keeps_next hs hx
  · next ho => exact keeps_next (h.respond _ _ _ (h.quiet (.oldestRequest ho) hs)) hx

/-- The taking of a request, whose handler keeps the property. -/
theorem takeRequestWith {places code length : Nat} {linkOnly : Bool} {handle : Request → State → State}
    (hh : ∀ (q : Request) (s : State), P s → P (handle q s)) (hs : P s) :
    P (takeRequestWith places code length linkOnly handle s) := by
  unfold Machine.takeRequestWith
  split
  · exact hs
  · next q s1 ho =>
    have h1 := h.quiet (.oldestRequest ho) hs
    split
    · exact h.respond _ _ _ h1
    · split
      · exact h.respond _ _ _ h1
      · exact hh q s1 h1

theorem takeRequest {code length : Nat} {linkOnly : Bool} {handle : Request → State → State}
    (hh : ∀ (q : Request) (s : State), P s → P (handle q s)) (hs : P s) :
    P (takeRequest code length linkOnly handle s) := h.takeRequestWith hh hs

theorem answerRead (f : Request → State → Option (List Byte)) (q : Request) (s : State) (hs : P s) :
    P (answerRead f q s) := by
  unfold Machine.answerRead
  split <;> exact h.respond _ _ _ hs

/-! ### Requests to the line, the Air Arbiter and the geometry -/

theorem handleStart (q : Request) (s : State) (hs : P s) : P (handleStart q s) := by
  unfold Machine.handleStart
  split
  · exact h.driven (.moveLine _ (by simp)) (h.respond q .done [] hs)
  · exact h.respond _ _ _ hs

theorem handleDrain (q : Request) (s : State) (hs : P s) : P (handleDrain q s) := by
  unfold Machine.handleDrain
  split
  · exact h.settled (.moveLine _ (by simp)) (h.respond q .done [] hs)
  · exact h.respond _ _ _ hs

theorem handleStop (q : Request) (s : State) (hs : P s) : P (handleStop q s) := by
  unfold Machine.handleStop
  split
  · exact h.respond _ _ _ hs
  · exact h.emptied ((StandbyKept.cutPulses _).empty (discardItems_beltEmpty _)) hs

theorem handleResume (q : Request) (s : State) (hs : P s) : P (handleResume q s) := by
  have hr := fun status => h.respond q status [] hs
  unfold Machine.handleResume
  split
  · next r _ =>
    split
    · refine h.settled (StandbyKept.trans (.moveLine _ ?_) (.inEitherOrder .examineHead .examine _)) (hr .done)
      cases r <;> simp [ResumeState.lineState]
    · exact hr _
  · exact hr _
  · exact hr _
  · exact hr _

theorem handleInitialize (q : Request) (s : State) (hs : P s) : P (handleInitialize q s) := by
  unfold Machine.handleInitialize
  extract_lets s1 s2
  have h2 : BeltEmpty s2 :=
    initializeBlocks_beltEmpty ((StandbyKept.cutPulses _).empty (discardItems_beltEmpty s1))
  exact h.emptied (((Quiet.respond q .done [] s2).trans (.raiseNotice _ _)).standbyKept.empty h2) hs

theorem handleSetGeometry (q : Request) (s : State) (hs : P s) : P (handleSetGeometry q s) := by
  have hr := fun status => h.respond q status [] hs
  unfold Machine.handleSetGeometry
  split
  · dsimp only
    split
    · refine h.driven (.onLine _ rfl) ?_
      exact h.elsewhere (hr .done) rfl rfl rfl rfl rfl
    · exact hr _
  · exact hr _

theorem handleSetSpeedCodes (q : Request) (s : State) (hs : P s) : P (handleSetSpeedCodes q s) := by
  have hr := fun status => h.respond q status [] hs
  unfold Machine.handleSetSpeedCodes
  dsimp only
  split
  · exact h.driven (.onLine _ rfl) (hr .done)
  · exact h.respond _ _ _ hs

theorem handleSetAir (q : Request) (s : State) (hs : P s) : P (handleSetAir q s) := by
  have hr := fun status => h.respond q status [] hs
  unfold Machine.handleSetAir
  dsimp only
  split
  · exact hr _
  · split
    · next scheme _ _ =>
      have h1 : P (writeAir (q.byte 2) scheme (Machine.respond q .done [] s)) :=
        h.quiet (s := s) ⟨rfl, rfl, rfl, rfl, rfl, fun _ => rfl⟩ hs
      split
      · exact h.settled (.examine _) h1
      · exact h1
    · exact hr _

/-! ### Requests to an outlet -/

theorem withOutlet {f : Request → OutletId → State → State} (hh : ∀ q k s, P s → P (f q k s)) (q : Request)
    (s : State) (hs : P s) : P (withOutlet q (f q) s) := by
  unfold Machine.withOutlet
  split
  · exact h.respond _ _ _ hs
  · split
    · exact hh _ _ _ hs
    · exact h.respond _ _ _ hs

theorem onOutlet (k : OutletId) (f : Outlet → Outlet) (hq : (f s.outlets[k]).queue = s.outlets[k].queue)
    (hs : P s) : P (s.onOutlet k f) := h.quiet (.onOutlet k f hq) hs

theorem handleMask : ∀ (q : Request) (s : State), P s → P (handleMask q s) := h.withOutlet fun q k _ hs =>
  h.driven ((StandbyKept.onOutlet k _ id).trans (.reportLoss k _ _)) (h.respond q .done [] hs)

theorem handleUnmask : ∀ (q : Request) (s : State), P s → P (handleUnmask q s) := h.withOutlet fun q k _ hs =>
  h.onOutlet k _ rfl (h.respond q .done [] hs)

theorem handleSetCrate : ∀ (q : Request) (s : State), P s → P (handleSetCrate q s) :=
  h.withOutlet fun q k s hs => by
    have hr := fun status => h.respond q status [] hs
    dsimp only
    split
    · exact hr _
    · split
      · exact h.onOutlet k _ rfl (hr _)
      · exact hr _

theorem handleReloadCrate : ∀ (q : Request) (s : State), P s → P (handleReloadCrate q s) :=
  h.withOutlet fun q k s hs => by
    have hr := fun status => h.respond q status [] hs
    dsimp only
    split
    · next hw =>
      refine h.quiet (.freshCrate fun ho => ?_) (hr .done)
      have ho' : s.outlets[k].state = .opened := ho
      rw [ho'] at hw
      simp at hw
    · exact hr _

theorem handleClearJam : ∀ (q : Request) (s : State), P s → P (handleClearJam q s) :=
  h.withOutlet fun q k s hs => by
    have hr := fun status => h.respond q status [] hs
    split
    · exact h.quiet (.enterByMode k _) (h.onOutlet k _ rfl (hr _))
    · exact hr _

theorem handleSetPlaceTiming (q : Request) (s : State) (hs : P s) : P (handleSetPlaceTiming q s) := by
  have hr := fun status => h.respond q status [] hs
  unfold Machine.handleSetPlaceTiming
  split
  · exact hr _
  · exact h.onLink _ (hr _)

theorem handleSetOutletPlace (q : Request) (s : State) (hs : P s) : P (handleSetOutletPlace q s) := by
  have hr := fun status => h.respond q status [] hs
  unfold Machine.handleSetOutletPlace
  split
  · exact hr _
  · split
    · exact hr _
    · split
      · exact hr _
      · split
        · exact hr _
        · exact h.quiet (.placeOutlet _ _ _) (hr _)

/-! ### Routes, channels and balances -/

theorem handleSetRoute (q : Request) (s : State) (hs : P s) : P (handleSetRoute q s) := by
  have hr := fun status bytes => h.respond q status bytes hs
  unfold Machine.handleSetRoute
  split
  · split
    · split
      · split
        · exact hr _ _
        · split
          · exact h.elsewhere hs rfl rfl rfl rfl rfl
          · exact hr _ _
      · exact hr _ _
    · exact hr _ _
  · exact hr _ _

theorem withChannel {f : Request → ChannelId → State → State} (hh : ∀ q c s, P s → P (f q c s)) (q : Request)
    (s : State) (hs : P s) : P (withChannel q (f q) s) := by
  unfold Machine.withChannel
  split
  · exact h.respond _ _ _ hs
  · split
    · exact hh _ _ _ hs
    · exact h.respond _ _ _ hs

theorem handleSetChannel : ∀ (q : Request) (s : State), P s → P (handleSetChannel q s) :=
  h.withChannel fun q c s hs => by
    have hr := fun status => h.respond q status [] hs
    split
    · split
      · split
        · exact h.onChannel c _ (hr _)
        · exact hr _
      · exact hr _
    · exact hr _

theorem handleEnableChannel : ∀ (q : Request) (s : State), P s → P (handleEnableChannel q s) :=
  h.withChannel fun q c s hs => by
    have hr := fun status => h.respond q status [] hs
    split
    · exact h.onChannel c _ (hr _)
    · exact hr _

theorem handleChannelOff : ∀ (q : Request) (s : State), P s → P (handleChannelOff q s) :=
  h.withChannel fun q c s hs => by
    have hr := h.respond q .done [] hs
    dsimp only
    split
    · exact h.driven ((StandbyKept.onChannel c _ _).trans ((StandbyKept.handRelease c _).trans (.raiseNotice _ _))) hr
    · exact h.onChannel c _ hr

theorem withAccount {allowed : Fin 6 → StationId → Bool} {f : Request → Fin 6 → Fin 6 → State → State}
    (hh : ∀ q c i s, P s → P (f q c i s)) (q : Request) (s : State) (hs : P s) :
    P (withAccount q allowed (f q) s) := by
  unfold Machine.withAccount
  split
  · split
    · exact hh _ _ _ _ hs
    · exact h.respond _ _ _ hs
  · exact h.respond _ _ _ hs

theorem takeChange (q : Request) (c f : Fin 6) (g : Accumulator → Accumulator) (hs : P s) :
    P (takeChange q c f g s) := h.quiet (.changeAccount c f g _) (h.respond q .done _ hs)

theorem onBalance (c : Fin 6) (f : Balance → Balance) (hs : P s) : P (s.onBalance c f) :=
  h.elsewhere hs rfl rfl rfl rfl rfl

theorem handleIssue : ∀ (q : Request) (s : State), P s → P (handleIssue q s) := h.withAccount fun q c f s hs => by
  dsimp only
  split
  · exact h.takeChange q c f _ hs
  · exact h.respond _ _ _ hs

theorem handleAdjust : ∀ (q : Request) (s : State), P s → P (handleAdjust q s) := h.withAccount fun q c f s hs => by
  dsimp only
  split
  · exact h.takeChange q c f _ hs
  · exact h.respond _ _ _ hs

theorem handleSetValue : ∀ (q : Request) (s : State), P s → P (handleSetValue q s) :=
  h.withAccount fun q c f _ hs => h.takeChange q c f _ hs

theorem handleSetThreshold : ∀ (q : Request) (s : State), P s → P (handleSetThreshold q s) :=
  h.withAccount fun q c f s hs => by
    dsimp only
    split
    · exact h.takeChange q c f _ (h.onBalance c _ hs)
    · exact h.respond _ _ _ hs

theorem handleClearFlags : ∀ (q : Request) (s : State), P s → P (handleClearFlags q s) :=
  h.withAccount fun _ c _ _ hs => h.onBalance c _ (h.respond _ _ _ hs)

theorem handleSetBalanceMode (q : Request) (s : State) (hs : P s) : P (handleSetBalanceMode q s) := by
  have hr := fun status bytes => h.respond q status bytes hs
  unfold Machine.handleSetBalanceMode
  split
  · exact hr _ _
  · split
    · split
      · exact hr _ _
      · exact h.onBalance _ _ (hr _ _)
    · exact hr _ _

/-! ### Masks and polls -/

theorem handleSetNoticeMask (q : Request) (s : State) (hs : P s) : P (handleSetNoticeMask q s) :=
  h.elsewhere hs rfl rfl rfl rfl rfl

theorem handlePollNotices (q : Request) (s : State) (hs : P s) : P (handlePollNotices q s) := by
  unfold Machine.handlePollNotices
  extract_lets st removed left s1 s2 s3
  have h2 : P s2 := h.elsewhere hs rfl rfl rfl rfl rfl
  have h3 : P s3 := foldl_keeps (fun s n hs => h.onLink _ hs) removed h2
  split
  · exact h.onLink _ h3
  · exact h3

/-! ### The commands -/

/-- Every command but power-on keeps such a property. -/
theorem exec {c : Instr} (hc : ∀ p e, c ≠ .powerOn p e) (hs : P s) (hx : exec c s = .next t) : P t := by
  cases c with
  | powerOn p e => exact absurd rfl (hc p e)
  | encoderEvent p => exact h.execEncoderEvent p hs hx
  | speedIntervalClose => exact h.execSpeedIntervalClose hs hx
  | geLeadingEdge => exact keeps_next (h.takeLeadingEdge hs) hx
  | geTrailingEdge => exact keeps_next (h.takeTrailingEdge hs) hx
  | chuteGateRising k => exact keeps_next (h.takeChuteRising k hs) hx
  | crateRemoved k => exact keeps_next (h.takeCrateFalling k hs) hx
  | cratePlaced k => exact keeps_next (h.takeCrateRising k hs) hx
  | readyLineRising k => exact keeps_next (h.takeReadyRising k hs) hx
  | readyLineFalling k => exact keeps_next (h.takeReadyFalling k hs) hx
  | receiveByte value framingError => exact keeps_next (h.takeByte value framingError hs) hx
  | frameTimerExpiry => exact h.execFrameTimerExpiry hs hx
  | captureMessageBegin => exact h.execCaptureMessageBegin hs hx
  | captureMessageSent => exact keeps_next (h.quiet (.onAdmission _ rfl rfl) hs) hx
  | pulseEnd k => exact h.execPulseEnd k hs hx
  | confirmTimeout k => exact h.execConfirmTimeout k hs hx
  | estopAssertion =>
    exact keeps_next
      (h.driven ((StandbyKept.onLine _ rfl).trans ((StandbyKept.haltLine _ _).trans (.cutPulses _))) hs) hx
  | estopRelease => exact keeps_next (h.driven (.onLine _ rfl) hs) hx
  | settleTimeExpiry c => exact h.execSettleTimeExpiry c hs hx
  | channelSample c above => exact h.execChannelSample c above hs hx
  | frameArrival frame remote => exact h.execFrameArrival frame remote hs hx
  | frameTransmitted => exact h.execFrameTransmitted hs hx
  | unassignedRequestCode => exact h.execUnassignedRequestCode hs hx
  | start => exact keeps_next (h.takeRequest h.handleStart hs) hx
  | drain => exact keeps_next (h.takeRequest h.handleDrain hs) hx
  | stop => exact keeps_next (h.takeRequest h.handleStop hs) hx
  | resume => exact keeps_next (h.takeRequest h.handleResume hs) hx
  | initializeLine => exact keeps_next (h.takeRequest h.handleInitialize hs) hx
  | setGeometry => exact keeps_next (h.takeRequest h.handleSetGeometry hs) hx
  | setSpeedCodes => exact keeps_next (h.takeRequest h.handleSetSpeedCodes hs) hx
  | setAir => exact keeps_next (h.takeRequest h.handleSetAir hs) hx
  | setPlaceTiming => exact keeps_next (h.takeRequest h.handleSetPlaceTiming hs) hx
  | setOutletPlace => exact keeps_next (h.takeRequest h.handleSetOutletPlace hs) hx
  | mask => exact keeps_next (h.takeRequest h.handleMask hs) hx
  | unmask => exact keeps_next (h.takeRequest h.handleUnmask hs) hx
  | setCrate => exact keeps_next (h.takeRequest h.handleSetCrate hs) hx
  | reloadCrate => exact keeps_next (h.takeRequest h.handleReloadCrate hs) hx
  | clearJam => exact keeps_next (h.takeRequest h.handleClearJam hs) hx
  | setRoute => exact keeps_next (h.takeRequest h.handleSetRoute hs) hx
  | setChannel => exact keeps_next (h.takeRequest h.handleSetChannel hs) hx
  | enableChannel => exact keeps_next (h.takeRequest h.handleEnableChannel hs) hx
  | channelOff => exact keeps_next (h.takeRequest h.handleChannelOff hs) hx
  | issue => exact keeps_next (h.takeRequest h.handleIssue hs) hx
  | adjust => exact keeps_next (h.takeRequest h.handleAdjust hs) hx
  | setValue => exact keeps_next (h.takeRequest h.handleSetValue hs) hx
  | setBalanceMode => exact keeps_next (h.takeRequest h.handleSetBalanceMode hs) hx
  | setThreshold => exact keeps_next (h.takeRequest h.handleSetThreshold hs) hx
  | clearFlags => exact keeps_next (h.takeRequest h.handleClearFlags hs) hx
  | readLine => exact keeps_next (h.takeRequest (h.answerRead _) hs) hx
  | readOutlet => exact keeps_next (h.takeRequest (h.answerRead _) hs) hx
  | readConfirmQueue => exact keeps_next (h.takeRequest (h.answerRead _) hs) hx
  | readTrackEntry => exact keeps_next (h.takeRequest (h.answerRead _) hs) hx
  | readPending => exact keeps_next (h.takeRequest (h.answerRead _) hs) hx
  | readRoute => exact keeps_next (h.takeRequest (h.answerRead _) hs) hx
  | readChannel => exact keeps_next (h.takeRequest (h.answerRead _) hs) hx
  | readBalance => exact keeps_next (h.takeRequest (h.answerRead _) hs) hx
  | readCounts => exact keeps_next (h.takeRequest (h.answerRead _) hs) hx
  | setNoticeMask => exact keeps_next (h.takeRequest h.handleSetNoticeMask hs) hx
  | pollNotices => exact keeps_next (h.takeRequestWith h.handlePollNotices hs) hx
  | inputSample ge chutes crates readies =>
    refine keeps_next ?_ hx
    exact h.elsewhere (h.handEdges _ hs) rfl rfl rfl rfl rfl
  | frameTransmissionBegin => exact h.execFrameTransmissionBegin hs hx

/-- Every step keeps such a property, if power-on gives it. -/
theorem step (hp : ∀ p e (s : State), P { State.powerOn p e with draws := s.draws, pending := s.pending }) (hs : P s)
    (hx : step s = .next t) : P t := by
  unfold Machine.step at hx
  split at hx
  · exact keeps_next hs hx
  · next c rest _ =>
    have h1 : P { s with pending := rest } := h.elsewhere hs rfl rfl rfl rfl rfl
    by_cases hc : ∃ p e, c = .powerOn p e
    · obtain ⟨p, e, rfl⟩ := hc
      exact keeps_next (hp p e _) hx
    · exact h.exec (fun p e hc' => hc ⟨p, e, hc'⟩) h1 hx

end EventClosed

/-! ## Power-on -/

theorem powerOn_beltEmpty (p : Phases) (e : Bool) (s : State) :
    BeltEmpty { State.powerOn p e with draws := s.draws, pending := s.pending } :=
  ⟨rfl, rfl, fun k => by simp [State.powerOn, Outlet.powerOn]⟩

/-- Power-on leaves the line stopped in STANDBY with IDENT-READY low (R22, R158). -/
theorem powerOn_outputsDriven (p : Phases) (e : Bool) (s : State) :
    OutputsDriven { State.powerOn p e with draws := s.draws, pending := s.pending } := by
  have hstop : StoppedCondition { State.powerOn p e with draws := s.draws, pending := s.pending } :=
    .inl (by simp [State.powerOn, Line.powerOn])
  refine ⟨fun _ => ⟨rfl, rfl⟩, fun h => absurd hstop h, fun h => absurd hstop h, ?_⟩
  simp [State.powerOn, Admission.powerOn, Line.powerOn]

end Sys2Proof.Machine

open Sys2Proof Sys2Proof.Machine

/-- Settles O6: each event leaves every input of the outputs alone or ends in driving them. -/
theorem stepKeepsOutputsDriven : Obligations.StepKeepsOutputsDriven :=
  fun _ _ hs hx => eventClosed_outputsDriven.step powerOn_outputsDriven hs hx

/-- Settles O7: nothing joins an empty belt in STANDBY, and what brings the line there empties the belt or finds it
empty. -/
theorem stepKeepsStandbyEmpty : Obligations.StepKeepsStandbyEmpty :=
  fun _ _ hs hx => eventClosed_standbyHoldsNothing.step
    (fun p e s => (standbyHoldsNothing_iff _).2 fun _ => powerOn_beltEmpty p e s) hs hx
end

section
/-! SUPPORT. The entry gate's edges, the examination of the head and the admission of an item (R23 to R32, R35, R39,
R40, R148, R152, R179). -/

namespace Sys2Proof.Machine

open Sys2Proof

variable {s t : State}

/-! ## Leading edges (R24, R35) -/

/-- A leading edge that is the oldest of GE is taken. -/
theorem exec_geLeadingEdge {p : Position} {others : List FilteredEdge}
    (h : s.reports { input := .ge, rising := true, position := p } others) :
    exec .geLeadingEdge s = .next (leadingEdge p (s.withEdges others)) := by
  have ht : takeEdge .ge true s = some (_, s.withEdges others) := takeEdge_of_reports h
  simp only [exec, execGeLeadingEdge, takeLeadingEdge, ht]

theorem leadingEdge_of_room (p : Position) (hr : s.line.state = .run) (hl : s.admission.entries.length < 4) :
    leadingEdge p s = driveOutputs (openEntry p s) := if_pos ⟨hr, hl⟩

theorem leadingEdge_untracked (p : Position) (h : ¬ (s.line.state = .run ∧ s.admission.entries.length < 4)) :
    leadingEdge p s = handOnOverflow 6 (s.admission.untracked + 1)
      (s.onAdmission fun a => { a with untracked := a.untracked + 1 }) := if_neg h

theorem handOnOverflow_of_run (i : Nat) (n : DeviceCount) (h : s.line.state = .run) : handOnOverflow i n s =
    if s.link.overflowArm = true then
      raiseNotice (.overflow i n) (s.onLink fun l => { l with overflowArm := false })
    else s := if_pos h

theorem handOnOverflow_of_not_run (i : Nat) (n : DeviceCount) (h : s.line.state ≠ .run) : handOnOverflow i n s = s :=
  if_neg h

/-! ## Trailing edges (R25) -/

theorem exec_geTrailingEdge {p : Position} {others : List FilteredEdge}
    (h : s.reports { input := .ge, rising := false, position := p } others) :
    exec .geTrailingEdge s = .next (trailingEdge p (s.withEdges others)) := by
  have ht : takeEdge .ge false s = some (_, s.withEdges others) := takeEdge_of_reports h
  simp only [exec, execGeTrailingEdge, takeTrailingEdge, ht]

theorem any_lacks_trailing (l : List PendingEntry) :
    (l.any fun e => e.trailing.isNone) = true ↔ ∃ e ∈ l, e.trailing = none := by
  simp

/-- Where every entry has its trailing position, none is given. -/
theorem giveTrailing_of_complete (p : Position) {l : List PendingEntry} (h : ∀ e ∈ l, e.trailing ≠ none) :
    giveTrailing p l = l := by
  cases l with
  | nil => rfl
  | cons e rest =>
    have hrest : ¬ (rest.any fun x => x.trailing.isNone) = true := by
      rw [any_lacks_trailing]
      exact fun ⟨x, hx, hn⟩ => h x (by simp [hx]) hn
    have he : ¬ e.trailing.isNone = true := by simpa using h e (by simp)
    rw [giveTrailing, if_neg hrest, if_neg he]

/-- The newest entry that lacks a trailing position is given it. -/
theorem giveTrailing_append (p : Position) {front back : List PendingEntry} {e : PendingEntry}
    (he : e.trailing = none) (hb : ∀ x ∈ back, x.trailing ≠ none) :
    giveTrailing p (front ++ e :: back) = front ++ { e with trailing := some p } :: back := by
  induction front with
  | nil =>
    have hback : ¬ (back.any fun x => x.trailing.isNone) = true := by
      rw [any_lacks_trailing]
      exact fun ⟨x, hx, hn⟩ => hb x hx hn
    rw [List.nil_append, giveTrailing, if_neg hback, if_pos (by simp [he])]
    rfl
  | cons x front ih =>
    have hlater : ((front ++ e :: back).any fun x => x.trailing.isNone) = true :=
      (any_lacks_trailing _).2 ⟨e, by simp, he⟩
    rw [List.cons_append, giveTrailing, if_pos hlater, ih, List.cons_append]

/-- The head takes a trailing position when it lacks one and every entry behind it has its own. -/
theorem headTakesTrailing_iff (l : List PendingEntry) : headTakesTrailing l = true ↔
    ∃ e rest, l = e :: rest ∧ e.trailing = none ∧ ∀ x ∈ rest, x.trailing ≠ none := by
  cases l with
  | nil => simp [headTakesTrailing]
  | cons e rest => simp [headTakesTrailing]

/-- A trailing edge for which no entry lacks its position (R25). -/
theorem trailingEdge_of_complete (p : Position) (h : ∀ e ∈ s.admission.entries, e.trailing ≠ none) :
    trailingEdge p s = s := by
  have hhead : ¬ headTakesTrailing s.admission.entries = true := by
    rw [headTakesTrailing_iff]
    rintro ⟨e, rest, hs, he, -⟩
    exact h e (by simp [hs]) he
  simp only [trailingEdge, if_neg hhead]
  simp only [State.onAdmission, giveTrailing_of_complete p h]

section

variable {front back : List PendingEntry} {e : PendingEntry}

/-- A trailing edge whose entry is not the head. -/
theorem trailingEdge_of_later (p : Position) (hs : s.admission.entries = front ++ e :: back) (he : e.trailing = none)
    (hb : ∀ x ∈ back, x.trailing ≠ none) (hf : front ≠ []) : trailingEdge p s =
      s.onAdmission fun a => { a with entries := front ++ { e with trailing := some p } :: back } := by
  have hhead : ¬ headTakesTrailing s.admission.entries = true := by
    rw [headTakesTrailing_iff, hs]
    rintro ⟨x, rest, hx, -, hrest⟩
    cases front with
    | nil => exact hf rfl
    | cons y front =>
      obtain ⟨-, rfl⟩ := List.cons.inj hx
      exact hrest e (by simp) he
  simp only [trailingEdge, if_neg hhead]
  simp only [State.onAdmission, hs, giveTrailing_append p he hb]

/-- A trailing edge whose entry is the head: the head is examined (R27). -/
theorem trailingEdge_of_head (p : Position) (hs : s.admission.entries = e :: back) (he : e.trailing = none)
    (hb : ∀ x ∈ back, x.trailing ≠ none) : trailingEdge p s =
      settleLine (examineHead (s.onAdmission fun a =>
        { a with entries := { e with trailing := some p } :: back })) := by
  have hhead : headTakesTrailing s.admission.entries = true := (headTakesTrailing_iff _).2 ⟨e, back, hs, he, hb⟩
  have hgive : giveTrailing p s.admission.entries = { e with trailing := some p } :: back := by
    rw [hs]
    exact giveTrailing_append (front := []) p he hb
  simp only [trailingEdge, if_pos hhead]
  simp only [State.onAdmission, hgive]

end

/-! ## The return of an item to the Balance Unit (R148, R152) -/

@[simp] theorem accountOf_writeAccount (c f : Fin 6) (a : Accumulator) (s : State) :
    accountOf c f (writeAccount c f a s) = a := by
  simp [accountOf, writeAccount, State.onBalance]

@[simp] theorem thresholdOf_writeAccount (c f : Fin 6) (a : Accumulator) (s : State) :
    thresholdOf c f (writeAccount c f a s) = thresholdOf c f s := by
  simp [thresholdOf, writeAccount, State.onBalance]

/-- A change of an accumulator evaluates its above flag, and raises BALANCE HIGH when that goes from clear to set. -/
theorem changeAccount_eq (c f : Fin 6) (change : Accumulator → Accumulator) (s : State) :
    changeAccount c f change s =
      let new := evaluateAbove (thresholdOf c f s) (change (accountOf c f s))
      if (accountOf c f s).aboveFlag = false ∧ new.aboveFlag = true then
        raiseNotice (.balanceHigh c f new.value new.excursion (thresholdOf c f s)) (writeAccount c f new s)
      else writeAccount c f new s := by
  simp only [changeAccount, noticeBalance, accountOf_writeAccount, thresholdOf_writeAccount, Bool.and_eq_true,
    Bool.not_eq_true', and_comm]

/-- A change of an accumulator leaves every block but the balances and the link. -/
theorem changeAccount_onBlocks (c f : Fin 6) (change : Accumulator → Accumulator) (s : State) :
    ∃ b l, changeAccount c f change s = { s with balances := b, link := l } := by
  rw [changeAccount_eq]
  dsimp only
  split
  · obtain ⟨l, -, h⟩ := raiseNotice_onLink _ (writeAccount c f _ s)
    exact ⟨_, l, h⟩
  · exact ⟨_, s.link, rfl⟩

theorem sixOf_succ (c : Fin 6) : sixOf (Fin.succ c).val = some c := by
  revert c
  decide

/-- An item without an owner or without a family makes no return. -/
theorem returnItem_of_none {owner : StationId} {wareClass : WareClass} (h : owner = 0 ∨ wareClass.family = none)
    (s : State) : returnItem owner wareClass s = s := by
  unfold returnItem
  rcases h with rfl | h
  · rfl
  · rw [h]
    split
    · next hf => cases hf
    · rfl

theorem returnItem_of_some {wareClass : WareClass} {c f : Fin 6} (hf : wareClass.family = some f) (s : State) :
    returnItem c.succ wareClass s = changeAccount c f (addAmount s.balances[c].mode (-1)) s := by
  rw [returnItem, sixOf_succ, hf]

theorem returnItem_admission (owner : StationId) (wareClass : WareClass) (s : State) :
    (returnItem owner wareClass s).admission = s.admission := by
  unfold returnItem
  split
  · next c f _ _ =>
    obtain ⟨b, l, h⟩ := changeAccount_onBlocks c f (addAmount s.balances[c].mode (-1)) s
    rw [h]
  · rfl

/-! ## The admission of an entry let go (R28 to R32, R39, R40) -/

/-- The identity an entry is admitted with: its record's, none where it has no record or is merged (R29, R30). -/
def PendingEntry.identity (e : PendingEntry) (footprint : Nat) : Identity :=
  if 400 < footprint then unidentified else e.record.getD unidentified

/-- The counters of an admission: NO IDENTITY without a record, MERGED above a footprint of 400. -/
def Admission.counted (a : Admission) (e : PendingEntry) (footprint : Nat) : Admission :=
  { a with
    noIdentity := if e.record = none then a.noIdentity + 1 else a.noIdentity
    merged := if 400 < footprint then a.merged + 1 else a.merged }

theorem admitEntry_eq (e : PendingEntry) (s : State) : admitEntry e s =
    admitItem e.leading (min (letGoFootprint e s) 400) (e.identity (letGoFootprint e s))
      (s.onAdmission fun a => a.counted e (letGoFootprint e s)) := by
  have hmin : min (letGoFootprint e s) 400 = if 400 < letGoFootprint e s then 400 else letGoFootprint e s := by
    split <;> omega
  rw [hmin]
  unfold admitEntry
  by_cases hm : 400 < letGoFootprint e s <;> cases hr : e.record <;>
    simp [hm, hr, PendingEntry.identity, Admission.counted, State.onAdmission]

/-- A new record is WAITING, or on its way to residue where it has no target (R40). -/
theorem newRecord_withState (leading : Position) (footprint : Nat) (identity : Identity) (s : State) :
    { newRecord leading footprint identity s with
      state := if (newRecord leading footprint identity s).target = none then .toResidue else .waiting } =
      newRecord leading footprint identity s := by
  simp only [newRecord, Option.isSome_iff_ne_none, ne_eq, ite_not]

theorem letGo_of_room {e : PendingEntry} {rest : List PendingEntry} (h : s.track.records.length < 48) :
    letGo e rest s = admitEntry e (removeEntry e rest s) := if_pos h

theorem letGo_of_full {e : PendingEntry} {rest : List PendingEntry} (h : 48 ≤ s.track.records.length) :
    letGo e rest s = handOnOverflow 7 (s.admission.overflow + 1)
      ((removeEntry e rest s).onAdmission fun a => { a with overflow := a.overflow + 1 }) := if_neg (not_lt.2 h)

/-- An entry let go leaves the rest of the pending list. -/
theorem letGo_entries (e : PendingEntry) (rest : List PendingEntry) (s : State) :
    (letGo e rest s).admission.entries = rest := by
  by_cases h : s.track.records.length < 48
  · rw [letGo_of_room h, admitEntry_eq, admitItem, returnItem_admission, (evaluateRecord_diversion _ _).admission]
    rfl
  · rw [letGo_of_full (not_lt.1 h)]
    unfold handOnOverflow overflowOccurrence
    split
    · split
      · obtain ⟨l, -, hn⟩ := raiseNotice_onLink (.overflow 7 (s.admission.overflow + 1))
          (((removeEntry e rest s).onAdmission fun a => { a with overflow := a.overflow + 1 }).onLink
            fun l => { l with overflowArm := false })
        rw [hn]
        rfl
      · rfl
    · rfl

/-! ## The examination of the head (R27 to R29) -/

/-- Whether the head is let go: it is complete, or its identity deadline is reached (R28, R29). -/
def PendingEntry.goes (e : PendingEntry) (s : State) : Prop :=
  (e.trailing ≠ none ∧ e.record ≠ none) ∨
    (s.geometry.identityOffset : Int) ≤ signedDiff s.sensing.position e.leading

theorem goes_iff (e : PendingEntry) (s : State) : (e.complete || deadlineReached e s) = true ↔ e.goes s := by
  simp only [PendingEntry.complete, deadlineReached, PendingEntry.goes, Bool.or_eq_true, Bool.and_eq_true,
    decide_eq_true_eq, Option.isSome_iff_ne_none]

theorem examineHead_of_idle (h : s.admission.entries = [] ∨ ¬ (s.line.state = .run ∨ s.line.state = .drain)) :
    examineHead s = s := by
  unfold examineHead
  split
  · next hm =>
    have he : s.admission.entries = [] := h.resolve_right fun hn => hn ((moving_iff _).1 hm)
    rw [he]
    rfl
  · rfl

section

variable {e : PendingEntry} {rest : List PendingEntry}

theorem examineHead_of_goes (he : s.admission.entries = e :: rest)
    (hl : s.line.state = .run ∨ s.line.state = .drain) (hg : e.goes s) :
    examineHead s = examineHead (letGo e rest s) := by
  have hm : s.line.state.moving = true := (moving_iff _).2 hl
  have hm' : (letGo e rest s).line.state.moving = true := by rw [letGo_line]; exact hm
  rw [examineHead, if_pos hm, examineHead, if_pos hm', letGo_entries, he, List.length_cons, examineHeads, he]
  exact if_pos ((goes_iff e s).2 hg)

theorem examineHead_of_stays (he : s.admission.entries = e :: rest)
    (hl : s.line.state = .run ∨ s.line.state = .drain) (hg : ¬ e.goes s) : examineHead s = s := by
  rw [examineHead, if_pos ((moving_iff _).2 hl), he, List.length_cons, examineHeads, he]
  exact if_neg fun h => hg ((goes_iff e s).1 h)

end

end Sys2Proof.Machine

open Sys2Proof Sys2Proof.Machine

/-- Settles O34, by the three cases of a leading edge that is taken. -/
theorem leadingEdgeOpensEntry : Obligations.LeadingEdgeOpensEntry := by
  intro p others s h u n counted
  rw [exec_geLeadingEdge h]
  refine ⟨fun hr hl => ?_, fun hr hl => ?_, fun hr => ?_⟩
  · rw [leadingEdge_of_room p (by exact hr) (by exact hl)]
    rfl
  · rw [leadingEdge_untracked (s := u) p fun hc => absurd hc.2 (not_lt.2 hl)]
    exact congrArg Host.Outcome.next (handOnOverflow_of_run 6 _ (by exact hr))
  · rw [leadingEdge_untracked (s := u) p fun hc => hr hc.1]
    exact congrArg Host.Outcome.next (handOnOverflow_of_not_run 6 _ (by exact hr))

/-- Settles O35: the entry that takes the position is the newest without one, and the examination is that of the
head. -/
theorem trailingEdgeGivesPosition : Obligations.TrailingEdgeGivesPosition := by
  intro p others s h u
  rw [exec_geTrailingEdge h]
  refine ⟨fun hall => ?_, fun front back e hs he hb => ⟨fun hf => ?_, fun hf => ?_⟩, fun e rest w hw => ?_,
    fun w => examineHead_of_idle⟩
  · exact congrArg Host.Outcome.next (trailingEdge_of_complete p (s := u) hall)
  · exact congrArg Host.Outcome.next (trailingEdge_of_later p (s := u) hs he hb hf)
  · subst hf
    exact congrArg Host.Outcome.next (trailingEdge_of_head p (s := u) hs he hb)
  · exact fun hl => ⟨examineHead_of_goes hw hl, examineHead_of_stays hw hl⟩

/-- Settles O24, by the room on the track and by the owner and the family of the item. -/
theorem admissionCreatesTheRecord : Obligations.AdmissionCreatesTheRecord := by
  intro e rest s f found i route target r a
  refine ⟨fun hroom => ?_, fun hfull => ?_, ?_⟩
  · have hi : e.identity f = i := rfl
    have hr : newRecord e.leading (min f 400) i ((removeEntry e rest s).onAdmission fun a => a.counted e f) = r := by
      rw [← newRecord_withState]
      rfl
    rw [letGo_of_room hroom, admitEntry_eq]
    show admitItem e.leading (min f 400) (e.identity f) ((removeEntry e rest s).onAdmission fun a => a.counted e f) = _
    rw [hi, admitItem]
    simp only [hr]
    rfl
  · intro u
    rw [letGo_of_full hfull]
    by_cases hr : s.line.state = .run
    · rw [handOnOverflow_of_run _ _ (by exact hr)]
      simp only [hr, true_and]
      rfl
    · rw [handOnOverflow_of_not_run _ _ (by exact hr), if_neg fun hc => hr hc.1]
      rfl
  · intro family
    have hfamily : family = i.wareClass.family := by
      simp only [family]
      cases i.wareClass <;> rfl
    rw [hfamily]
    refine ⟨fun h v => returnItem_of_none h v, fun c g ho hf v => ?_⟩
    intro old threshold added new w
    rw [ho, returnItem_of_some hf, changeAccount_eq]
    rfl
end

section
/-! SUPPORT. STOP: the move to STANDBY, the discards, and the cut on the belt they empty (R57, R89, R165). -/

namespace Sys2Proof.Machine

open Sys2Proof

variable {s t : State}

theorem placeNoticeFrame_onLine (frame : CanFrame) (f : Line → Line) (s : State) :
    placeNoticeFrame frame (s.onLine f) = (placeNoticeFrame frame s).onLine f := by
  rw [placeNoticeFrame, placeNoticeFrame, apply_ite (State.onLine f)]
  rfl

theorem noticeTo_onLine (n : Notice) (f : Line → Line) (s : State) (a : StationId) :
    noticeTo n (s.onLine f) a = (noticeTo n s a).onLine f := by
  rw [noticeTo, noticeTo, apply_ite (State.onLine f), ← placeNoticeFrame_onLine]
  rfl

/-- A LINE notice is raised alike whatever the Line Controller holds. -/
theorem raiseNotice_line_onLine (old : Option LineState) (new : LineState) (cause : LineCause) (f : Line → Line)
    (s : State) : raiseNotice (.line old new cause) (s.onLine f) = (raiseNotice (.line old new cause) s).onLine f :=
  noticeTo_onLine _ f s 0

/-- A move of the line changes its state and, by its notice, the link. -/
theorem moveLine_eq (new : LineState) (cause : LineCause) (s : State) : moveLine new cause s =
    { s with
      line := { s.line with state := new }
      link := (raiseNotice (.line (some s.line.state) new cause) s).link } := by
  rw [moveLine, raiseNotice_line_onLine]
  obtain ⟨l, -, h⟩ := raiseNotice_onLink (.line (some s.line.state) new cause) s
  rw [h]
  rfl

/-- STOP outside STANDBY, after its response (R165). -/
theorem handleStop_of_moved {q : Request} (h : s.line.state ≠ .standby) : handleStop q s =
    driveOutputs (cutPulses (discardItems (moveLine .standby .stop (respond q .done [] s)))) := if_neg h

end Sys2Proof.Machine

open Sys2Proof Sys2Proof.Machine

/-- Settles O50: the cut on the belt that the discards have emptied stops the pulses alone. -/
theorem stopEmptiesTheBelt : Obligations.StopEmptiesTheBelt := by
  intro tag rest s h
  have hexec : exec .stop s = .next (handleStop { station := 0, data := [0x03, tag] } (s.unanswered rest)) :=
    congrArg Host.Outcome.next (takeRequest_asked (code := 0x03) h handleStop rfl fun _ => rfl)
  rw [hexec]
  refine ⟨fun hl => ?_, fun hl => ?_⟩
  · rw [handleStop, if_pos (by exact hl), respond_unanswered]
    rfl
  · rw [handleStop_of_moved (by exact hl), respond_unanswered, moveLine_eq,
      cutPulses_of_emptied (discardItems_emptied _), driveOutputs_of_standby rfl]
    exact ⟨_, rfl, rfl, fun k => Vector.getElem_ofFn _, rfl, rfl, rfl, rfl, rfl, rfl, rfl, rfl, rfl, rfl, rfl, rfl,
      rfl⟩
end

section
/-! SUPPORT. The Identity Port: the framing of records, their checks, their matching, and the capture messages (R17 to
R21, R26, R27). -/

namespace Sys2Proof.Machine

open Sys2Proof

variable {s t : State}

/-! ## Framing (R18, R19) -/

section

variable {b : Byte}

theorem takeByte_of_hunting (h : s.admission.framing = .hunting) (framingError : Bool) :
    takeByte b framingError s = if framingError = false ∧ b = recordMark then collect [b] s else s := by
  rw [takeByte, h]

theorem takeByte_of_error {taken : List Byte} (h : s.admission.framing = .collecting taken) :
    takeByte b true s = discardFrame s := by
  rw [takeByte, h]
  rfl

theorem takeByte_of_collecting {taken : List Byte} (h : s.admission.framing = .collecting taken) :
    takeByte b false s =
      if taken.length < 5 then collect (taken ++ [b]) s else completeRecord (taken ++ [b]) (hunt s) := by
  rw [takeByte, h]
  rfl

end

/-! ## The check of a complete record (R20, R21) -/

theorem WareClass.ofCode_of_gt {n : Nat} (h : 10 < n) : WareClass.ofCode n = .unknown := by
  obtain ⟨m, rfl⟩ := Nat.exists_eq_add_of_lt h
  rw [show 10 + m + 1 = m + 11 by omega]
  rfl

theorem WareClass.family_isSome (c : WareClass) :
    c.family.isSome = true ↔ ¬ (c = .unknown ∨ c = .disposable ∨ c = .foodWaste) := by
  cases c <;> simp [WareClass.family]

/-- The fields of a record made safe: a class code above 10 is UNKNOWN, and an item without a family has no owner
(R21). -/
theorem madeSafe_eq (c o q : Byte) : madeSafe c o q =
    let cls := if c.toNat ≤ 10 then WareClass.ofCode c.toNat else .unknown
    { wareClass := cls
      owner := if h : o.toNat < 7 then
          (if cls = .unknown ∨ cls = .disposable ∨ cls = .foodWaste then 0 else ⟨o.toNat, h⟩)
        else 0
      confidence := if h : q.toNat < 16 then ⟨q.toNat, h⟩ else 0 } := by
  have hclass : (if c.toNat ≤ 10 then WareClass.ofCode c.toNat else .unknown) = WareClass.ofCode c.toNat := by
    split
    · rfl
    · next h => rw [WareClass.ofCode_of_gt (by omega)]
  rw [hclass]
  generalize hcls : WareClass.ofCode c.toNat = cls
  have howner : (if cls.family.isSome = true then ownerOfCode o.toNat else 0) =
      if h : o.toNat < 7 then
          (if cls = .unknown ∨ cls = .disposable ∨ cls = .foodWaste then 0 else ⟨o.toNat, h⟩)
        else 0 := by
    simp only [ownerOfCode, WareClass.family_isSome, ite_not]
    by_cases h : o.toNat < 7
    · simp only [dif_pos h]
    · simp only [dif_neg h, ite_self]
  dsimp only
  rw [← howner, ← hcls]
  rfl

/-- A record of six bytes is accepted when its check byte is the sum of the four before it and its capture number is
one of the sixteen (R20). -/
theorem checkRecord_eq (m n c o q b : Byte) : checkRecord [m, n, c, o, q, b] =
    if b = n + c + o + q ∧ n.toNat < 16 then some (BitVec.ofNat 4 n.toNat, madeSafe c o q) else none := rfl

/-! ## The matching of an accepted record (R26) -/

section

variable {n : CaptureNumber} {identity : Identity} {front back : List PendingEntry} {e : PendingEntry}

theorem matchRecord_of_none (h : ∀ e ∈ s.admission.entries, e.capture ≠ n) :
    matchRecord n identity s = s.onAdmission fun a => { a with stale := a.stale + 1 } := by
  have hf : s.admission.entries.find? (fun e => e.capture == n) = none := by simpa using h
  rw [matchRecord, hf]

theorem find_capture (hs : s.admission.entries = front ++ e :: back) (he : e.capture = n)
    (hf : ∀ x ∈ front, x.capture ≠ n) : s.admission.entries.find? (fun e => e.capture == n) = some e := by
  have hfront : front.find? (fun e => e.capture == n) = none := by simpa using hf
  rw [hs, List.find?_append, hfront]
  simp [he]

theorem matchRecord_of_duplicate (hs : s.admission.entries = front ++ e :: back) (he : e.capture = n)
    (hf : ∀ x ∈ front, x.capture ≠ n) (hr : e.record ≠ none) :
    matchRecord n identity s = s.onAdmission fun a => { a with duplicate := a.duplicate + 1 } := by
  simp only [matchRecord, find_capture hs he hf, Option.isSome_iff_ne_none.2 hr, if_true]

/-- The record is attached to the one entry of its capture number. -/
theorem attachRecord_eq (hs : s.admission.entries = front ++ e :: back) (he : e.capture = n)
    (ho : ∀ x ∈ front ++ back, x.capture ≠ n) : attachRecord n identity s =
      s.onAdmission fun a => { a with entries := front ++ { e with record := some identity } :: back } := by
  have hid : ∀ l : List PendingEntry, (∀ x ∈ l, x.capture ≠ n) →
      l.map (fun e => if e.capture = n then { e with record := some identity } else e) = l := fun l hl => by
    rw [List.map_congr_left fun x hx => if_neg (hl x hx), List.map_id']
  have hfront := hid front fun x hx => ho x (by simp [hx])
  have hback := hid back fun x hx => ho x (by simp [hx])
  simp only [attachRecord, State.onAdmission, hs, List.map_append, List.map_cons, hfront, hback, if_pos he]

/-- A record without one before it is attached, and the head is examined when it is the head's (R27). -/
theorem matchRecord_of_attached (hs : s.admission.entries = front ++ e :: back) (he : e.capture = n)
    (ho : ∀ x ∈ front ++ back, x.capture ≠ n) (hr : e.record = none) :
    matchRecord n identity s =
      let v := s.onAdmission fun a => { a with entries := front ++ { e with record := some identity } :: back }
      if front = [] then settleLine (examineHead v) else v := by
  have hhead : s.admission.entries.head?.map (·.capture) = some n ↔ front = [] := by
    rw [hs]
    cases front with
    | nil => simp [he]
    | cons x front => simpa using ho x (by simp)
  have hf : ∀ x ∈ front, x.capture ≠ n := fun x hx => ho x (by simp [hx])
  simp only [matchRecord, find_capture hs he hf, hr, Option.isSome_none, Bool.false_eq_true, if_false, hhead,
    attachRecord_eq hs he ho]

end

/-- A capture number is that of a byte below 16 when their values agree. -/
theorem capture_eq_ofNat {k : CaptureNumber} {n : Byte} (h : n.toNat < 16) :
    k = BitVec.ofNat 4 n.toNat ↔ k.toNat = n.toNat := by
  rw [← BitVec.toNat_inj, BitVec.toNat_ofNat, Nat.mod_eq_of_lt h]

/-! ## The sixth byte of a record -/

theorem takeByte_of_sixth {m n c o q b : Byte} (h : s.admission.framing = .collecting [m, n, c, o, q]) :
    takeByte b false s =
      if b = n + c + o + q ∧ n.toNat < 16 then
        matchRecord (BitVec.ofNat 4 n.toNat) (madeSafe c o q) (hunt s)
      else (hunt s).onAdmission fun a => { a with badCheck := a.badCheck + 1 } := by
  rw [takeByte_of_collecting h, if_neg (by simp)]
  show completeRecord [m, n, c, o, q, b] (hunt s) = _
  rw [completeRecord, checkRecord_eq]
  by_cases hc : b = n + c + o + q ∧ n.toNat < 16
  · simp only [if_pos hc]
  · simp only [if_neg hc]

end Sys2Proof.Machine

open Sys2Proof Sys2Proof.Machine

/-- Settles O36, by the framing of a byte, the check of a record, its matching, and what is due. -/
theorem identityPortIsServed : Obligations.IdentityPortIsServed := by
  refine ⟨fun b s => ⟨fun hh => ⟨?_, fun hb => ?_, fun hb => ?_⟩, fun taken hc => ⟨?_, fun hl => ?_⟩,
    fun m n c o q hc => ?_⟩, fun s => ⟨fun n rest hf hq => ?_, fun h => ?_, rfl, fun d hd hn => ?_, fun h => ?_⟩⟩
  · exact congrArg Host.Outcome.next ((takeByte_of_hunting hh true).trans (if_neg (by simp)))
  · exact congrArg Host.Outcome.next ((takeByte_of_hunting hh false).trans (if_neg fun h => hb h.2))
  · subst hb
    exact congrArg Host.Outcome.next ((takeByte_of_hunting hh false).trans (if_pos ⟨rfl, rfl⟩))
  · exact congrArg Host.Outcome.next (takeByte_of_error hc)
  · exact congrArg Host.Outcome.next ((takeByte_of_collecting hc).trans (if_pos hl))
  · intro u cls identity
    have hid : madeSafe c o q = identity := madeSafe_eq c o q
    have hexec : exec (.receiveByte b false) s = .next (takeByte b false s) := rfl
    rw [hexec, takeByte_of_sixth hc, hid]
    refine ⟨fun hbad => by rw [if_neg hbad]; rfl, fun hsum hn => ?_⟩
    rw [if_pos ⟨hsum, hn⟩]
    have hcap : ∀ k : CaptureNumber, k ≠ BitVec.ofNat 4 n.toNat ↔ k.toNat ≠ n.toNat := fun k =>
      not_congr (capture_eq_ofNat hn)
    refine ⟨fun hnone => ?_, fun front back e hs he ho => ?_⟩
    · exact congrArg Host.Outcome.next (matchRecord_of_none (s := u) fun e hm => (hcap _).2 (hnone e hm))
    · have he' := (capture_eq_ofNat hn).2 he
      have ho' : ∀ x ∈ front ++ back, x.capture ≠ BitVec.ofNat 4 n.toNat := fun x hx => (hcap _).2 (ho x hx)
      have hf' : ∀ x ∈ front, x.capture ≠ BitVec.ofNat 4 n.toNat := fun x hx => ho' x (by simp [hx])
      refine ⟨fun hr => ?_, fun hr => ?_⟩
      · exact congrArg Host.Outcome.next (matchRecord_of_duplicate (s := u) hs he' hf' hr)
      · have hmatch := congrArg (Host.Outcome.next (φ := Fault) (ρ := Refusal))
          (matchRecord_of_attached (s := u) (identity := identity) hs he' ho' hr)
        exact ⟨fun hfront => hmatch.trans (congrArg _ (if_neg hfront)),
          fun hfront => hmatch.trans (congrArg _ (if_pos hfront))⟩
  · have hmsg : captureMessage n = (0x3C, n.setWidth 8) := by rw [captureMessage, BitVec.ofNat_toNat]
    simp only [exec, execCaptureMessageBegin, hf, hq, hmsg]
  · simp only [exec, execCaptureMessageBegin]
    split
    · next hf hq => simp [hf, hq] at h
    · rfl
  · simp only [exec, execFrameTimerExpiry, hd, if_pos hn]
    rfl
  · simp only [exec, execFrameTimerExpiry]
    split
    · rfl
    · next d hd => exact if_neg (not_le.2 (h d hd))
end

section
/-! SUPPORT. The reads of entries: what each answers for the subjects, positions and items it is asked for, and that a
read changes nothing but that it is taken and answered (R36, R58, R116, R127, R157, R175). -/

namespace Sys2Proof.Machine

open Sys2Proof

variable {s t : State}

/-! ## The answer to a read -/

theorem padTo_of_length {n : Nat} {l : List Byte} (h : l.length = n) : padTo n l = l := by
  rw [padTo, List.take_append_of_le_length h.ge, List.take_of_length_le h.le]

section

variable {f : Request → State → Option (List Byte)} {a : StationId} {code tag : Byte} {args : List Byte}
  {rest : List Request} {length : Nat}

/-- A read of a quantity that exists is answered by its bytes. -/
theorem read_answered {bytes : List Byte} (h : s.asked a (code :: tag :: args) rest) (hl : args.length + 2 = length)
    (hf : f { station := a, data := code :: tag :: args } (s.unanswered rest) = some bytes) :
    takeRequest code.toNat length false (answerRead f) s =
      s.taken rest (answer a code tag .done (padTo 5 bytes)) := by
  rw [takeRequest_asked h (answerRead f) hl (by simp), answerRead, hf]
  exact respond_unanswered a code tag args .done bytes rest s

/-- A read answered in a form of five bytes. -/
theorem read_answered_form {bytes : List Byte} (h : s.asked a (code :: tag :: args) rest)
    (hl : args.length + 2 = length) (hb : bytes.length = 5)
    (hf : f { station := a, data := code :: tag :: args } (s.unanswered rest) = some bytes) :
    takeRequest code.toNat length false (answerRead f) s = s.taken rest (answer a code tag .done bytes) := by
  rw [read_answered h hl hf, padTo_of_length hb]

/-- A read out of range is BAD VALUE. -/
theorem read_refused (h : s.asked a (code :: tag :: args) rest) (hl : args.length + 2 = length)
    (hf : f { station := a, data := code :: tag :: args } (s.unanswered rest) = none) :
    takeRequest code.toNat length false (answerRead f) s =
      s.taken rest (answer a code tag .badValue noResults) := by
  rw [takeRequest_asked h (answerRead f) hl (by simp), answerRead, hf]
  exact respond_unanswered a code tag args .badValue [] rest s

end

theorem entryForm_length (tag : Option SequenceTag) (item : Option Nat) : (entryForm tag item).length = 5 := by
  cases tag <;> cases item <;> rfl

theorem pendingForm_length (capture : Option CaptureNumber) (item : Option Nat) :
    (pendingForm capture item).length = 5 := by
  cases capture <;> cases item <;> rfl

/-- The bytes of an accumulator: its value, its excursion, and its two flags (section 11.3). -/
theorem accumulatorForm_eq (x : Accumulator) : accumulatorForm x =
    bytes2 (BitVec.ofInt 16 x.value).toNat ++ [BitVec.ofInt 8 x.excursion,
      BitVec.ofNat 8 ((if x.overFlag = true then 1 else 0) + (if x.aboveFlag = true then 2 else 0))] := by
  have hflag : 2 * flagCode x.aboveFlag = if x.aboveFlag = true then 2 else 0 := by cases x.aboveFlag <;> rfl
  rw [accumulatorForm, hflag]
  rfl

/-! ## The answers of the reads of entries -/

section

variable {a : StationId} {tag n p i : Byte}

theorem confirmAnswer_eq : confirmAnswer { station := a, data := [0x32, tag, n, p, i] } s =
    (outletOf n.toNat).bind fun k =>
      if 3 < p.toNat ∨ 4 < i.toNat then none
      else some (entryForm (s.outlets[k].queue[p.toNat]?.map (·.tag))
        (if i.toNat = 4 then some s.outlets[k].queue.length
          else s.outlets[k].queue[p.toNat]?.bind fun e => confirmItem s.now e i.toNat)) := rfl

theorem trackAnswer_eq : trackAnswer { station := a, data := [0x33, tag, p, i] } s =
    if 47 < p.toNat ∨ 10 < i.toNat then none
    else some (entryForm (s.track.records[p.toNat]?.map (·.tag))
      (if i.toNat = 10 then some s.track.records.length
        else s.track.records[p.toNat]?.map fun r => trackItem r i.toNat)) := rfl

theorem pendingAnswer_eq : pendingAnswer { station := a, data := [0x34, tag, p, i] } s =
    if 3 < p.toNat ∨ 6 < i.toNat then none
    else some (pendingForm (s.admission.entries[p.toNat]?.map (·.capture))
      (if i.toNat = 5 then some s.admission.entries.length
        else if i.toNat = 6 then some s.admission.captureCounter.toNat
        else s.admission.entries[p.toNat]?.bind fun e => pendingItem e i.toNat)) := rfl

theorem routeAnswer_eq : routeAnswer { station := a, data := [0x35, tag, n, i] } s =
    (stationOf n.toNat).bind fun row => (classArgument i.toNat).bind fun c =>
      some (bytes1 (outletNumber s.routes[row].entries[c].primary) ++
        bytes1 (outletNumber s.routes[row].entries[c].alternate) ++
        bytes1 s.routes[row].entries[c].minConfidence.val ++ bytes2 s.routes[row].revision.toNat) := rfl

/-- The answer of READ BALANCE for a concession and a family, by its item (R157). -/
def balanceItem (c f : Fin 6) (s : State) : Nat → Option (List Byte)
  | 0 => some (accumulatorForm (accountOf c f s))
  | 1 => some (bytes2 (thresholdOf c f s) ++ bytes1 s.balances[c].mode.code)
  | _ => none

theorem balanceAnswer_eq : balanceAnswer { station := a, data := [0x37, tag, n, p, i] } s =
    (sixOf n.toNat).bind fun c => (sixOf p.toNat).bind fun f => balanceItem c f s i.toNat := rfl

/-! ## The commands -/

variable {rest : List Request}

section

variable (h : s.asked a [0x32, tag, n, p, i] rest)
include h

theorem exec_readConfirmQueue {k : OutletId} {item : Option Nat} (hn : n = numberByte k) (hp : p.toNat ≤ 3)
    (hi : i.toNat ≤ 4) (hitem : (if i.toNat = 4 then some s.outlets[k].queue.length
      else s.outlets[k].queue[p.toNat]?.bind fun e => confirmItem s.now e i.toNat) = item) :
    exec .readConfirmQueue s = .next (s.taken rest (answer a 0x32 tag .done
      (entryForm (s.outlets[k].queue[p.toNat]?.map (·.tag)) item))) := by
  refine congrArg Host.Outcome.next (read_answered_form (code := 0x32) h rfl (entryForm_length _ _) ?_)
  rw [confirmAnswer_eq, hn, outletOf_numberByte, ← hitem]
  exact if_neg (by omega)

theorem exec_readConfirmQueue_bad (hb : (∀ k : OutletId, n ≠ numberByte k) ∨ 3 < p.toNat ∨ 4 < i.toNat) :
    exec .readConfirmQueue s = .next (s.taken rest (answer a 0x32 tag .badValue noResults)) := by
  refine congrArg Host.Outcome.next (read_refused (code := 0x32) h rfl ?_)
  rw [confirmAnswer_eq]
  rcases hb with hb | hb
  · rw [outletOf_of_ne hb]
    rfl
  · simp only [if_pos hb, Option.bind_fun_none]

end

section

variable (h : s.asked a [0x33, tag, p, i] rest)
include h

theorem exec_readTrackEntry {item : Option Nat} (hp : p.toNat ≤ 47) (hi : i.toNat ≤ 10)
    (hitem : (if i.toNat = 10 then some s.track.records.length
      else s.track.records[p.toNat]?.map fun r => trackItem r i.toNat) = item) :
    exec .readTrackEntry s = .next (s.taken rest (answer a 0x33 tag .done
      (entryForm (s.track.records[p.toNat]?.map (·.tag)) item))) := by
  refine congrArg Host.Outcome.next (read_answered_form (code := 0x33) h rfl (entryForm_length _ _) ?_)
  rw [trackAnswer_eq, ← hitem]
  exact if_neg (by omega)

theorem exec_readTrackEntry_bad (hb : 47 < p.toNat ∨ 10 < i.toNat) :
    exec .readTrackEntry s = .next (s.taken rest (answer a 0x33 tag .badValue noResults)) := by
  refine congrArg Host.Outcome.next (read_refused (code := 0x33) h rfl ?_)
  rw [trackAnswer_eq, if_pos hb]

end

section

variable (h : s.asked a [0x34, tag, p, i] rest)
include h

theorem exec_readPending {item : Option Nat} (hp : p.toNat ≤ 3) (hi : i.toNat ≤ 6)
    (hitem : (if i.toNat = 5 then some s.admission.entries.length
      else if i.toNat = 6 then some s.admission.captureCounter.toNat
      else s.admission.entries[p.toNat]?.bind fun e => pendingItem e i.toNat) = item) :
    exec .readPending s = .next (s.taken rest (answer a 0x34 tag .done
      (pendingForm (s.admission.entries[p.toNat]?.map (·.capture)) item))) := by
  refine congrArg Host.Outcome.next (read_answered_form (code := 0x34) h rfl (pendingForm_length _ _) ?_)
  rw [pendingAnswer_eq, ← hitem]
  exact if_neg (by omega)

theorem exec_readPending_bad (hb : 3 < p.toNat ∨ 6 < i.toNat) :
    exec .readPending s = .next (s.taken rest (answer a 0x34 tag .badValue noResults)) := by
  refine congrArg Host.Outcome.next (read_refused (code := 0x34) h rfl ?_)
  rw [pendingAnswer_eq, if_pos hb]

end

section

variable (h : s.asked a [0x35, tag, n, i] rest)
include h

theorem exec_readRoute {row : StationId} {c : Fin 11} (hn : n.toNat = row.val) (hi : i.toNat = c.val) :
    exec .readRoute s = .next (s.taken rest (answer a 0x35 tag .done
      (bytes1 (outletNumber s.routes[row].entries[c].primary) ++
        bytes1 (outletNumber s.routes[row].entries[c].alternate) ++
        bytes1 s.routes[row].entries[c].minConfidence.val ++ bytes2 s.routes[row].revision.toNat))) := by
  refine congrArg Host.Outcome.next (read_answered_form (code := 0x35) h rfl rfl ?_)
  rw [routeAnswer_eq, (stationOf_eq _ row).2 hn, (classArgument_eq _ c).2 hi]
  rfl

theorem exec_readRoute_bad (hb : 6 < n.toNat ∨ 10 < i.toNat) :
    exec .readRoute s = .next (s.taken rest (answer a 0x35 tag .badValue noResults)) := by
  refine congrArg Host.Outcome.next (read_refused (code := 0x35) h rfl ?_)
  rw [routeAnswer_eq]
  rcases hb with hb | hb
  · rw [stationOf, dif_neg (by omega)]
    rfl
  · rw [classArgument, dif_neg (by omega)]
    exact Option.bind_fun_none _

end

section

variable (h : s.asked a [0x37, tag, n, p, i] rest)
include h

theorem exec_readBalance {c f : Fin 6} {bytes : List Byte} (hn : n = numberByte c) (hp : p = numberByte f)
    (hb : balanceItem c f s i.toNat = some bytes) :
    exec .readBalance s = .next (s.taken rest (answer a 0x37 tag .done (padTo 5 bytes))) := by
  refine congrArg Host.Outcome.next (read_answered (code := 0x37) h rfl ?_)
  rw [balanceAnswer_eq, hn, hp, sixOf_numberByte, sixOf_numberByte]
  exact hb

theorem exec_readBalance_bad
    (hb : (∀ c : Fin 6, n ≠ numberByte c) ∨ (∀ f : Fin 6, p ≠ numberByte f) ∨ 1 < i.toNat) :
    exec .readBalance s = .next (s.taken rest (answer a 0x37 tag .badValue noResults)) := by
  refine congrArg Host.Outcome.next (read_refused (code := 0x37) h rfl ?_)
  rw [balanceAnswer_eq]
  rcases hb with hb | hb | hb
  · rw [sixOf_of_ne hb]
    rfl
  · rw [sixOf_of_ne hb]
    exact Option.bind_fun_none _
  · have hnone : ∀ c f, balanceItem c f (s.unanswered rest) i.toNat = none := fun c f => by
      unfold balanceItem
      split
      · next hi => omega
      · next hi => omega
      · rfl
    simp only [hnone, Option.bind_fun_none]

end

end

/-! ## Items by their numbers -/

/-- A PULSING entry has no time left to show (R116). -/
theorem confirmItem_of_pulsing {e : ConfirmEntry} (now : Nat) (h : e.phase = .pulsing) :
    confirmItem now e 2 = some 0 ∧ confirmItem now e 3 = none := by
  simp only [confirmItem, h, ConfirmPhase.code, and_self]

/-- An AWAITING entry shows the time left to its deadline (R116). -/
theorem confirmItem_of_awaiting {e : ConfirmEntry} {d : Nat} (now : Nat) (h : e.phase = .awaiting d) :
    confirmItem now e 2 = some 1 ∧ confirmItem now e 3 = some (d - now) := by
  simp only [confirmItem, h, ConfirmPhase.code, and_self]

/-- The items of a track record in the order of their numbers (R58). -/
theorem trackItem_of_getElem {r : TrackRecord} {i v : Nat}
    (h : [r.footprint, r.centre.toNat, r.wareClass.code.val, r.owner.val, r.confidence.val, outletNumber r.primary,
      outletNumber r.alternate, outletNumber r.target, r.state.code, flagCode r.fallback][i]? = some v) :
    i < 10 ∧ trackItem r i = v := by
  obtain ⟨hi, hv⟩ := List.getElem?_eq_some_iff.1 h
  have hi' : i < 10 := hi
  refine ⟨hi', hv ▸ ?_⟩
  interval_cases i <;> rfl

/-- The items of a pending entry in the order of their numbers (R36). -/
theorem pendingItem_of_getElem {e : PendingEntry} {i : Nat} {v : Option Nat}
    (h : [some e.leading.toNat, e.trailing.map (fun x => x.toNat), e.record.map (fun x => x.wareClass.code.val),
      e.record.map (fun x => x.owner.val), e.record.map (fun x => x.confidence.val)][i]? = some v) :
    i < 5 ∧ pendingItem e i = v := by
  obtain ⟨hi, hv⟩ := List.getElem?_eq_some_iff.1 h
  have hi' : i < 5 := hi
  refine ⟨hi', hv ▸ ?_⟩
  interval_cases i <;> rfl

end Sys2Proof.Machine

open Sys2Proof Sys2Proof.Machine

/-- Settles O60: each read by its subject, its position and its item. -/
theorem readsAnswerEntries : Obligations.ReadsAnswerEntries := by
  unfold Obligations.ReadsAnswerEntries
  intro two three entry pend outletCode
  have hentry : entry = entryForm := by
    funext t v
    cases t <;> cases v <;> rfl
  have hpend : pend = pendingForm := by
    funext c v
    cases c <;> cases v <;> rfl
  have houtlet : outletCode = outletNumber := by
    funext k
    cases k <;> rfl
  rw [hentry, hpend, houtlet]
  intro a tag n p i rest s reply bad
  refine ⟨fun h => ⟨exec_readConfirmQueue_bad h, fun k hn hp => ?_⟩, fun h => ⟨exec_readTrackEntry_bad h, ?_⟩,
    fun h => ⟨exec_readPending_bad h, fun hp => ?_⟩, fun h => ⟨exec_readRoute_bad h, fun row cls hn hi => ?_⟩,
    fun h => ⟨exec_readBalance_bad h, fun c f hn hp => ⟨?_, ?_⟩⟩⟩
  · intro q t
    have hread : ∀ {item : Option Nat}, i.toNat < 4 → (q[p.toNat]?.bind fun e => confirmItem s.now e i.toNat) = item →
        exec .readConfirmQueue s = .next (reply 0x32 (entryForm t item)) := fun hi hitem =>
      exec_readConfirmQueue h hn hp (by omega) (by rw [if_neg (by omega)]; exact hitem)
    refine ⟨?_, fun hi hq => ?_, fun e he => ⟨?_, ?_, fun hph => ⟨?_, ?_⟩, fun d hph => ⟨?_, ?_⟩⟩⟩
    · rintro rfl
      exact exec_readConfirmQueue h hn hp (by decide) rfl
    · have hnone : q[p.toNat]? = none := List.getElem?_eq_none hq
      have ht : t = none := by simp only [t, hnone, Option.map_none]
      rw [hread hi (item := none) (by rw [hnone]; rfl), ht]
    · rintro rfl
      exact hread (by decide) (by rw [he]; rfl)
    · rintro rfl
      exact hread (by decide) (by rw [he]; rfl)
    · rintro rfl
      exact hread (by decide) (by rw [he]; exact (confirmItem_of_pulsing s.now hph).1)
    · rintro rfl
      exact hread (by decide) (by rw [he]; exact (confirmItem_of_pulsing s.now hph).2)
    · rintro rfl
      exact hread (by decide) (by rw [he]; exact (confirmItem_of_awaiting s.now hph).1)
    · rintro rfl
      exact hread (by decide) (by rw [he]; exact (confirmItem_of_awaiting s.now hph).2)
  · refine ⟨fun hp => ?_, fun hp hi hr => ?_, fun hp r hr v hv => ?_⟩
    · rintro rfl
      exact exec_readTrackEntry h hp (by decide) rfl
    · have hnone : s.track.records[p.toNat]? = none := List.getElem?_eq_none hr
      rw [exec_readTrackEntry h hp hi.le (item := none) (by rw [if_neg (by omega), hnone]; rfl), hnone]
      rfl
    · obtain ⟨hi, hv⟩ := trackItem_of_getElem hv
      rw [exec_readTrackEntry h hp hi.le (item := some v) (by rw [if_neg (by omega), hr, Option.map_some, hv]), hr]
      rfl
  · intro c
    have hread : ∀ {item : Option Nat}, i.toNat < 5 →
        (s.admission.entries[p.toNat]?.bind fun e => pendingItem e i.toNat) = item →
        exec .readPending s = .next (reply 0x34 (pendingForm c item)) := fun hi hitem =>
      exec_readPending h hp (by omega) (by rw [if_neg (by omega), if_neg (by omega)]; exact hitem)
    refine ⟨?_, ?_, fun hi hq => ?_, fun e he v hv => ?_⟩
    · rintro rfl
      exact exec_readPending h hp (by decide) rfl
    · rintro rfl
      exact exec_readPending h hp (by decide) rfl
    · have hnone : s.admission.entries[p.toNat]? = none := List.getElem?_eq_none hq
      have hc : c = none := by simp only [c, hnone, Option.map_none]
      rw [hread hi (item := none) (by rw [hnone]; rfl), hc]
    · obtain ⟨hi, hv⟩ := pendingItem_of_getElem hv
      exact hread hi (by rw [he]; exact hv)
  · exact exec_readRoute h hn hi
  · rintro rfl
    rw [exec_readBalance h hn hp rfl, accumulatorForm_eq]
    rfl
  · rintro rfl
    exact exec_readBalance h hn hp rfl
end

section
/-! SUPPORT. The ledger of the items the part follows: every command but power-on keeps it by entering an
item, by giving one up under the count of its outcome, or by giving all up as ABANDONED (R57, R116). -/

namespace Sys2Proof.Machine

open Sys2Proof

/-! ## The ledger and its entries -/

/-- The number of items held beside the counts that account for them, device-level and summed over the outlets. -/
structure Ledger where
  held              : Nat
  admitted          : DeviceCount
  sorted            : DeviceCount
  unconfirmed       : DeviceCount
  residue           : DeviceCount
  missed            : DeviceCount
  abandoned         : DeviceCount
  outletSorted      : ShortCount
  outletUnconfirmed : ShortCount

/-- The ledger of a state. -/
def ledger (s : State) : Ledger where
  held := itemsHeld s
  admitted := s.track.admitted
  sorted := s.track.sorted
  unconfirmed := s.track.unconfirmed
  residue := s.track.residue
  missed := s.track.missed
  abandoned := s.track.abandoned
  outletSorted := (s.outlets.toList.map fun o => o.sorted).sum
  outletUnconfirmed := (s.outlets.toList.map fun o => o.unconfirmed).sum

/-- One entry: an item comes in, leaves under one count, or all leave as ABANDONED. -/
inductive LedgerStep (l : Ledger) : Ledger → Prop
  | enter : LedgerStep l { l with held := l.held + 1, admitted := l.admitted + 1 }
  | sort (n : Nat) : l.held = n + 1 →
      LedgerStep l { l with held := n, sorted := l.sorted + 1, outletSorted := l.outletSorted + 1 }
  | giveUp (n : Nat) : l.held = n + 1 → LedgerStep l
      { l with held := n, unconfirmed := l.unconfirmed + 1, outletUnconfirmed := l.outletUnconfirmed + 1 }
  | residue (n : Nat) : l.held = n + 1 → LedgerStep l { l with held := n, residue := l.residue + 1 }
  | miss (n : Nat) : l.held = n + 1 → LedgerStep l { l with held := n, missed := l.missed + 1 }
  | abandon : LedgerStep l { l with held := 0, abandoned := l.abandoned + BitVec.ofNat 32 l.held }

/-- The ledger of `t` follows from that of `s` by entries. -/
def Accounted (s t : State) : Prop := Relation.ReflTransGen LedgerStep (ledger s) (ledger t)

/-- The conservation of admitted items, on the ledger. -/
def Ledger.Conserved (l : Ledger) : Prop :=
  l.admitted = BitVec.ofNat 32 l.held + l.sorted + l.unconfirmed + l.residue + l.missed + l.abandoned

/-- The agreement of the outlets' counts with the device-level ones, on the ledger. -/
def Ledger.Agrees (l : Ledger) : Prop :=
  l.outletSorted = l.sorted.setWidth 16 ∧ l.outletUnconfirmed = l.unconfirmed.setWidth 16

theorem itemsConserved_iff (s : State) : ItemsConserved s ↔ (ledger s).Conserved := Iff.rfl

theorem outletCountsAgree_iff (s : State) : OutletCountsAgree s ↔ (ledger s).Agrees := Iff.rfl

theorem ofNat_succ_device (n : Nat) : (BitVec.ofNat 32 (n + 1) : DeviceCount) = BitVec.ofNat 32 n + 1 :=
  BitVec.ofNat_add ..

theorem LedgerStep.conserved {l l' : Ledger} (h : LedgerStep l l') (hl : l.Conserved) : l'.Conserved := by
  unfold Ledger.Conserved at hl ⊢
  cases h with
  | enter => simp only [hl, ofNat_succ_device]; ring
  | sort n hn => simp only [hl, hn, ofNat_succ_device]; ring
  | giveUp n hn => simp only [hl, hn, ofNat_succ_device]; ring
  | residue n hn => simp only [hl, hn, ofNat_succ_device]; ring
  | miss n hn => simp only [hl, hn, ofNat_succ_device]; ring
  | abandon => simp only [hl, BitVec.zero_add]; ring

theorem setWidth_succ (n : DeviceCount) : (n + 1).setWidth 16 = n.setWidth 16 + 1 :=
  BitVec.setWidth_add _ _ (by decide)

theorem LedgerStep.agrees {l l' : Ledger} (h : LedgerStep l l') (hl : l.Agrees) : l'.Agrees := by
  obtain ⟨hs, hu⟩ := hl
  cases h with
  | sort n hn => exact ⟨by rw [setWidth_succ, hs], hu⟩
  | giveUp n hn => exact ⟨hs, by rw [setWidth_succ, hu]⟩
  | enter | residue _ _ | miss _ _ | abandon => exact ⟨hs, hu⟩

/-- Whatever each entry keeps, an accounted change keeps. -/
theorem Accounted.keeps {s t : State} {p : Ledger → Prop} (hp : ∀ {l l'}, LedgerStep l l' → p l → p l')
    (h : Accounted s t) (hs : p (ledger s)) : p (ledger t) := by
  unfold Accounted at h
  generalize ledger t = l at h
  induction h with
  | refl => exact hs
  | tail _ hstep ih => exact hp hstep ih

namespace Accounted

variable {s t u : State}

theorem of_eq (h : ledger t = ledger s) : Accounted s t := by
  rw [Accounted, h]

theorem refl (s : State) : Accounted s s := .of_eq rfl

theorem trans (h : Accounted s t) (g : Accounted t u) : Accounted s u := Relation.ReflTransGen.trans h g

theorem of_step (h : LedgerStep (ledger s) (ledger t)) : Accounted s t := .single h

/-- A change that makes no entry may follow. -/
theorem followed (h : Accounted s t) (hu : ledger u = ledger t) : Accounted s u := h.trans (.of_eq hu)

/-- A change that makes no entry may come before. -/
theorem preceded (h : Accounted t u) (ht : ledger t = ledger s) : Accounted s u := (of_eq ht).trans h

end Accounted

/-! ## The ledger after a change of one block -/

section

variable {M : Type} [AddCommMonoid M]

theorem sum_outlets_congr {v w : Vector Outlet 12} (f : Outlet → M) (h : ∀ k : OutletId, f w[k] = f v[k]) :
    (w.toList.map f).sum = (v.toList.map f).sum := by
  congr 1
  refine List.ext_getElem (by simp) fun i hi _ => ?_
  simpa using h ⟨i, by simpa using hi⟩

theorem sum_list_set (f : Outlet → M) (o : Outlet) : ∀ (l : List Outlet) (i : Nat) (hi : i < l.length),
    ((l.set i o).map f).sum + f l[i] = (l.map f).sum + f o
  | x :: l, 0, _ => by simp [add_comm, add_left_comm]
  | x :: l, i + 1, hi => by
    have ih := sum_list_set f o l i (by simpa using hi)
    simp only [List.set_cons_succ, List.map_cons, List.sum_cons, List.getElem_cons_succ, add_assoc, ih]

/-- A sum over the outlets after a change of one. -/
theorem sum_outlets_set (f : Outlet → M) (v : Vector Outlet 12) (k : OutletId) (o : Outlet) :
    ((v.set k o).toList.map f).sum + f v[k] = (v.toList.map f).sum + f o := by
  rw [Vector.toList_set]
  simpa using sum_list_set f o v.toList k (by simp)

end

section

variable (s : State)

@[simp] theorem ledger_onNow (f : Nat → Nat) : ledger (s.onNow f) = ledger s := rfl
@[simp] theorem ledger_onSensing (f : Sensing → Sensing) : ledger (s.onSensing f) = ledger s := rfl
@[simp] theorem ledger_onAdmission (f : Admission → Admission) : ledger (s.onAdmission f) = ledger s := rfl
@[simp] theorem ledger_onTimings (f : Vector OutletTiming 12 → Vector OutletTiming 12) :
    ledger (s.onTimings f) = ledger s := rfl
@[simp] theorem ledger_onTiming (k : OutletId) (f : OutletTiming → OutletTiming) :
    ledger (s.onTiming k f) = ledger s := rfl
@[simp] theorem ledger_onGeometry (f : Geometry → Geometry) : ledger (s.onGeometry f) = ledger s := rfl
@[simp] theorem ledger_onAir (f : Air → Air) : ledger (s.onAir f) = ledger s := rfl
@[simp] theorem ledger_onRoutes (f : Vector RouteRow 7 → Vector RouteRow 7) : ledger (s.onRoutes f) = ledger s := rfl
@[simp] theorem ledger_onChannels (f : Vector Channel 14 → Vector Channel 14) :
    ledger (s.onChannels f) = ledger s := rfl
@[simp] theorem ledger_onChannel (c : ChannelId) (f : Channel → Channel) : ledger (s.onChannel c f) = ledger s := rfl
@[simp] theorem ledger_onBalance (c : Fin 6) (f : Balance → Balance) : ledger (s.onBalance c f) = ledger s := rfl
@[simp] theorem ledger_onLine (f : Line → Line) : ledger (s.onLine f) = ledger s := rfl
@[simp] theorem ledger_onLink (f : Link → Link) : ledger (s.onLink f) = ledger s := rfl
@[simp] theorem ledger_onStation (a : StationId) (f : StationLink → StationLink) :
    ledger (s.onStation a f) = ledger s := rfl
@[simp] theorem ledger_onDraws (f : Nat → Nat) : ledger (s.onDraws f) = ledger s := rfl

/-- The ledger after a change of one outlet, by the length of its queue and its two counts. -/
theorem ledger_onOutlet_eq {k : OutletId} {f : Outlet → Outlet} {n : Nat} {a b : ShortCount}
    (hn : n + s.outlets[k].queue.length = itemsHeld s + (f s.outlets[k]).queue.length)
    (ha : a + s.outlets[k].sorted = (ledger s).outletSorted + (f s.outlets[k]).sorted)
    (hb : b + s.outlets[k].unconfirmed = (ledger s).outletUnconfirmed + (f s.outlets[k]).unconfirmed) :
    ledger (s.onOutlet k f) = { ledger s with held := n, outletSorted := a, outletUnconfirmed := b } := by
  have hq := sum_outlets_set (fun o => o.queue.length) s.outlets k (f s.outlets[k])
  have hheld : itemsHeld (s.onOutlet k f) = n := by
    simp only [itemsHeld, State.onOutlet_track, State.onOutlet_outlets] at hn ⊢
    omega
  have hsorted : (ledger (s.onOutlet k f)).outletSorted = a :=
    add_right_cancel ((sum_outlets_set (fun o => o.sorted) s.outlets k (f s.outlets[k])).trans ha.symm)
  have hunconfirmed : (ledger (s.onOutlet k f)).outletUnconfirmed = b :=
    add_right_cancel ((sum_outlets_set (fun o => o.unconfirmed) s.outlets k (f s.outlets[k])).trans hb.symm)
  rw [← hheld, ← hsorted, ← hunconfirmed]
  rfl

@[simp] theorem ledger_onOutlet (k : OutletId) (f : Outlet → Outlet)
    (hq : (f s.outlets[k]).queue.length = s.outlets[k].queue.length) (hs : (f s.outlets[k]).sorted = s.outlets[k].sorted)
    (hu : (f s.outlets[k]).unconfirmed = s.outlets[k].unconfirmed) : ledger (s.onOutlet k f) = ledger s :=
  ledger_onOutlet_eq s (by rw [hq]) (by rw [hs]; rfl) (by rw [hu]; rfl)

/-- A change of the outlets that leaves the lengths of their queues and their two counts. -/
theorem ledger_onOutlets {f : Vector Outlet 12 → Vector Outlet 12}
    (hf : ∀ k : OutletId, (f s.outlets)[k].queue.length = s.outlets[k].queue.length ∧
      (f s.outlets)[k].sorted = s.outlets[k].sorted ∧ (f s.outlets)[k].unconfirmed = s.outlets[k].unconfirmed) :
    ledger (s.onOutlets f) = ledger s := by
  simp only [ledger, itemsHeld, State.onOutlets_track, State.onOutlets_outlets,
    sum_outlets_congr (fun o => o.queue.length) fun k => (hf k).1,
    sum_outlets_congr (fun o => o.sorted) fun k => (hf k).2.1,
    sum_outlets_congr (fun o => o.unconfirmed) fun k => (hf k).2.2]

end

end Sys2Proof.Machine
end

section
namespace Sys2Proof.Machine

open Sys2Proof

/-! ## Operations that make no entry: notices, responses and the line -/

@[simp] theorem ledger_raiseNotice (n : Notice) (s : State) : ledger (raiseNotice n s) = ledger s := by
  obtain ⟨l, -, h⟩ := raiseNotice_onLink n s
  rw [h]
  rfl

@[simp] theorem ledger_respond (q : Request) (status : Status) (results : List Byte) (s : State) :
    ledger (respond q status results s) = ledger s := rfl

@[simp] theorem ledger_driveOutputs (s : State) : ledger (driveOutputs s) = ledger s := rfl

@[simp] theorem ledger_moveLine (new : LineState) (cause : LineCause) (s : State) :
    ledger (moveLine new cause s) = ledger s := by simp [moveLine]

@[simp] theorem ledger_haltLine (cause : LineCause) (s : State) : ledger (haltLine cause s) = ledger s := by
  unfold haltLine
  split <;> simp

/-- A fold of operations that make no entry makes none. -/
theorem ledger_foldl {α : Type} {f : State → α → State} (hf : ∀ s a, ledger (f s a) = ledger s) (l : List α)
    (s : State) : ledger (l.foldl f s) = ledger s :=
  foldl_keeps (P := fun t => ledger t = ledger s) (fun t a ht => (hf t a).trans ht) l rfl

/-! ## Diversions move an item from the track to a confirm queue -/

@[simp] theorem ledger_setRequest (k : OutletId) (r : Option SequenceTag) (s : State) :
    ledger (setRequest k r s) = ledger s := rfl

@[simp] theorem ledger_withdraw (k : OutletId) (tag : SequenceTag) (s : State) :
    ledger (withdraw k tag s) = ledger s := by
  unfold withdraw
  split <;> simp

@[simp] theorem ledger_updateRecord (tag : SequenceTag) (f : TrackRecord → TrackRecord) (s : State) :
    ledger (updateRecord tag f s) = ledger s := by
  simp only [ledger, itemsHeld, updateRecord_length]
  rfl

@[simp] theorem ledger_reconsider (k : OutletId) (s : State) : ledger (reconsider k s).1 = ledger s := by
  unfold reconsider
  split
  · rfl
  · split
    · rfl
    · split <;> rfl

/-- A way of presenting that makes no entry. -/
def EntersNothing (pres : OutletId → State → State) : Prop := ∀ k s, ledger (pres k s) = ledger s

theorem entersNothing_presentQuietly : EntersNothing presentQuietly := ledger_reconsider

section

variable {pres : OutletId → State → State} (hp : EntersNothing pres)
include hp

theorem EntersNothing.presentTarget (r : TrackRecord) (s : State) : ledger (presentTarget pres r s) = ledger s := by
  unfold Machine.presentTarget
  split
  · exact hp _ s
  · rfl

theorem EntersNothing.turnAway (k : OutletId) (s : State) (tag : SequenceTag) :
    ledger (turnAway pres k s tag) = ledger s := by
  unfold Machine.turnAway
  split
  · rfl
  · split
    · simp [hp.presentTarget]
    · rfl

theorem EntersNothing.reportLoss (k : OutletId) (before : Bool) (s : State) :
    ledger (reportLoss pres k before s) = ledger s := by
  unfold Machine.reportLoss
  split
  · exact ledger_foldl (hp.turnAway k) _ s
  · rfl

end

/-- An item of the track moves to a confirm queue: the number of items held stays. -/
theorem ledger_divert {tag : SequenceTag} {r : TrackRecord} {s : State} (hr : recordOf tag s = some r) (k : OutletId)
    (e : ConfirmEntry) :
    ledger ((removeRecord tag s).onOutlet k fun o => { o with queue := o.queue ++ [e] }) = ledger s := by
  obtain ⟨rfl, front, back, hs, hf⟩ := recordOf_split hr
  have hheld : itemsHeld s = itemsHeld (removeRecord r.tag s) + 1 := by
    rw [removeRecord_split hs hf]
    simp only [itemsHeld, hs, State.withRecords, State.onTrack_track, State.onTrack_outlets, List.length_append,
      List.length_cons, List.length_nil]
    omega
  refine (ledger_onOutlet_eq (n := itemsHeld s) (removeRecord r.tag s) ?_ rfl rfl).trans rfl
  rw [hheld, List.length_append, List.length_singleton]
  exact Nat.add_right_comm ..

@[simp] theorem ledger_grant (k : OutletId) (s : State) : ledger (grant k s) = ledger s := by
  unfold grant
  split
  · rfl
  · next tag _ =>
    split
    · rfl
    · next r hr =>
      dsimp only
      rw [ledger_onAir, entersNothing_presentQuietly.reportLoss]
      exact ledger_divert (s := State.onAir _ (State.onTiming k _ (setRequest k none s))) hr k _

@[simp] theorem ledger_examine (s : State) : ledger (examine s) = ledger s := by
  have h1 : ∀ s, ledger (grantOne s) = ledger s := by
    intro s
    unfold grantOne
    split
    · split <;> simp
    · rfl
  rw [examine, h1, h1]

theorem entersNothing_present : EntersNothing present := by
  intro k s
  unfold present
  dsimp only
  split <;> simp

@[simp] theorem ledger_present (k : OutletId) (s : State) : ledger (present k s) = ledger s :=
  entersNothing_present k s

@[simp] theorem ledger_presentTarget (r : TrackRecord) (s : State) : ledger (presentTarget present r s) = ledger s :=
  entersNothing_present.presentTarget r s

@[simp] theorem ledger_reportLoss (k : OutletId) (before : Bool) (s : State) :
    ledger (reportLoss present k before s) = ledger s := entersNothing_present.reportLoss k before s

@[simp] theorem ledger_takeFallback (k : OutletId) (r : TrackRecord) (s : State) :
    ledger (takeFallback k r s) = ledger s := by
  unfold takeFallback
  dsimp only
  split <;> simp

@[simp] theorem ledger_evaluateRecord (s : State) (tag : SequenceTag) :
    ledger (evaluateRecord s tag) = ledger s := by
  unfold evaluateRecord
  split
  · rfl
  · split
    · rfl
    · split
      · rfl
      · rfl
      · split <;> simp
      · simp
      · simp
      · rfl
      · rfl

@[simp] theorem ledger_evaluateTrack (s : State) : ledger (evaluateTrack s) = ledger s :=
  ledger_foldl ledger_evaluateRecord _ s

/-! ## Pulse ends, cuts and the end of an event -/

@[simp] theorem ledger_awaitConfirm (k : OutletId) (tag : SequenceTag) (s : State) :
    ledger (awaitConfirm k tag s) = ledger s := by
  unfold awaitConfirm
  simp

@[simp] theorem ledger_cutPulses (s : State) : ledger (cutPulses s) = ledger s := by
  refine ledger_foldl (fun s k => ?_) _ s
  unfold cutPulse
  split
  · rfl
  · rw [entersNothing_presentQuietly, ledger_awaitConfirm]
    rfl

@[simp] theorem ledger_endPulse (k : OutletId) (tag : SequenceTag) (s : State) :
    ledger (endPulse k tag s) = ledger s := by
  simp [endPulse, deEnergise]

@[simp] theorem ledger_settleLine (s : State) : ledger (settleLine s) = ledger s := by
  unfold settleLine testDrain
  split <;> simp

theorem ledger_reverseStep (s : State) : ledger (reverseStep s) = ledger s := by
  unfold reverseStep raiseReverse
  dsimp only
  split
  · split <;> simp
  · rfl

/-! ## Crates and acceptance -/

@[simp] theorem ledger_enterFull (k : OutletId) (before : Bool) (s : State) :
    ledger (enterFull k before s) = ledger s := by simp [enterFull]

@[simp] theorem ledger_enterJam (k : OutletId) (before : Bool) (s : State) :
    ledger (enterJam k before s) = ledger s := by simp [enterJam]

@[simp] theorem ledger_takePlace (k : OutletId) (before : Bool) (s : State) :
    ledger (takePlace k before s) = ledger s := by
  unfold takePlace
  dsimp only
  split <;> simp

@[simp] theorem ledger_crateEffect (k : OutletId) (before : Bool) (s : State) :
    ledger (crateEffect k before s) = ledger s := by
  unfold crateEffect
  dsimp only
  split
  · simp
  · split <;> simp

@[simp] theorem ledger_strayEvent (k : OutletId) (before : Bool) (s : State) :
    ledger (strayEvent k before s) = ledger s := by
  unfold strayEvent
  dsimp only
  split <;> simp

@[simp] theorem ledger_freshCrate (k : OutletId) (s : State) : ledger (freshCrate k s) = ledger s := by
  unfold freshCrate openOrJam
  split <;> simp

@[simp] theorem ledger_removeCrate (k : OutletId) (s : State) : ledger (removeCrate k s) = ledger s := by
  unfold removeCrate
  dsimp only
  split <;> simp

@[simp] theorem ledger_placeCrate (k : OutletId) (s : State) : ledger (placeCrate k s) = ledger s := by
  unfold placeCrate
  dsimp only
  split
  · split <;> simp
  · rfl

@[simp] theorem ledger_enterByMode (k : OutletId) (s : State) : ledger (enterByMode k s) = ledger s := by
  unfold enterByMode enterByCrate
  split
  · split
    · split <;> simp
    · simp
  · simp

@[simp] theorem ledger_enterPlaced (k : OutletId) (before : OutletState) (modeBefore : OutletMode) (s : State) :
    ledger (enterPlaced k before modeBefore s) = ledger s := by
  unfold enterPlaced
  split
  · rfl
  · simp
  all_goals split <;> simp

@[simp] theorem ledger_placeOutlet (k : OutletId) (p : Placement) (s : State) :
    ledger (placeOutlet k p s) = ledger s := by
  unfold placeOutlet
  dsimp only
  rw [ledger_enterPlaced, ledger_onLink]
  split
  · rw [ledger_onOutlet _ _ _ rfl rfl rfl]
    rfl
  · rw [resetForeignRoutes, ledger_onRoutes, ledger_onOutlet _ _ _ rfl rfl rfl]
    rfl

/-! ## Overflows, balances and channels -/

@[simp] theorem ledger_handOnOverflow (i : Nat) (n : DeviceCount) (s : State) :
    ledger (handOnOverflow i n s) = ledger s := by
  unfold handOnOverflow overflowOccurrence
  split
  · split <;> simp
  · rfl

@[simp] theorem ledger_changeAccount (c f : Fin 6) (g : Accumulator → Accumulator) (s : State) :
    ledger (changeAccount c f g s) = ledger s := by
  unfold changeAccount noticeBalance writeAccount
  dsimp only
  split <;> simp

@[simp] theorem ledger_returnItem (owner : StationId) (wareClass : WareClass) (s : State) :
    ledger (returnItem owner wareClass s) = ledger s := by
  unfold returnItem
  split <;> simp

@[simp] theorem ledger_copyDetected (c : ChannelId) (detected : Bool) (s : State) :
    ledger (copyDetected c detected s) = ledger s := by
  unfold copyDetected
  split
  · simp
  · split <;> simp

@[simp] theorem ledger_handDetection (c : ChannelId) (s : State) : ledger (handDetection c s) = ledger s := by
  unfold handDetection
  dsimp only
  split <;> split <;> simp

@[simp] theorem ledger_handRelease (c : ChannelId) (s : State) : ledger (handRelease c s) = ledger s := by
  unfold handRelease
  dsimp only
  split <;> simp

@[simp] theorem ledger_noticeChannel (c : ChannelId) (event : ChannelEvent) (s : State) :
    ledger (noticeChannel c event s) = ledger s := ledger_raiseNotice ..

@[simp] theorem ledger_detection (c : ChannelId) (s : State) : ledger (detection c s) = ledger s := by
  unfold detection
  dsimp only
  split <;> simp

@[simp] theorem ledger_releaseVerdict (c : ChannelId) (s : State) : ledger (releaseVerdict c s) = ledger s := by
  unfold releaseVerdict
  dsimp only
  split <;> simp

@[simp] theorem ledger_firstVerdict (c : ChannelId) (shown : Bool) (s : State) :
    ledger (firstVerdict c shown s) = ledger s := by
  unfold firstVerdict
  dsimp only
  split
  · split <;> simp
  · simp
  · split <;> simp

@[simp] theorem ledger_sampleFirst (c : ChannelId) (shown : Bool) (s : State) :
    ledger (sampleFirst c shown s) = ledger s := by
  unfold sampleFirst
  dsimp only
  split <;> simp

@[simp] theorem ledger_sampleWatching (c : ChannelId) (shown : Bool) (s : State) :
    ledger (sampleWatching c shown s) = ledger s := by
  unfold sampleWatching
  dsimp only
  split
  · simp
  · split
    · simp
    · split <;> simp

end Sys2Proof.Machine
end

section
namespace Sys2Proof.Machine

open Sys2Proof

variable {s t : State}

/-! ## Operations that make entries -/

theorem queue_le_itemsHeld (k : OutletId) (s : State) : s.outlets[k].queue.length ≤ itemsHeld s := by
  have h := sum_outlets_set (fun o => o.queue.length) s.outlets k { s.outlets[k] with queue := [] }
  simp only [List.length_nil] at h
  unfold itemsHeld
  omega

/-- The oldest entry of a confirm queue is an item held. -/
theorem held_of_queue {k : OutletId} {e : ConfirmEntry} {rest : List ConfirmEntry}
    (hq : s.outlets[k].queue = e :: rest) :
    ∃ n, itemsHeld s = n + 1 ∧ n + s.outlets[k].queue.length = itemsHeld s + rest.length := by
  have hle := queue_le_itemsHeld k s
  rw [hq, List.length_cons] at hle ⊢
  exact ⟨itemsHeld s - 1, by omega, by omega⟩

/-- With the track and every confirm queue empty no item is held. -/
theorem itemsHeld_of_empty (hr : s.track.records = []) (hq : ∀ k : OutletId, s.outlets[k].queue = []) :
    itemsHeld s = 0 := by
  have hsum := sum_outlets_congr (w := s.outlets) (v := Vector.replicate 12 Outlet.powerOn)
    (fun o => o.queue.length) fun k => by rw [hq k]; simp [Outlet.powerOn]
  rw [itemsHeld, hr, hsum]
  rfl

namespace Accounted

/-- A fold of accounted operations. -/
theorem foldl {α : Type} {f : State → α → State} (hf : ∀ s a, Accounted s (f s a)) (l : List α) (s : State) :
    Accounted s (l.foldl f s) :=
  foldl_keeps (P := fun t => Accounted s t) (fun t a ht => ht.trans (hf t a)) l (refl s)

theorem inEitherOrder {first second : State → State} (hf : ∀ s, Accounted s (first s))
    (hg : ∀ s, Accounted s (second s)) (s : State) : Accounted s (inEitherOrder first second s) := by
  have h1 : Accounted s (s.onDraws (· + 1)) := of_eq rfl
  unfold Machine.inEitherOrder inOrder
  split
  · exact h1.trans ((hg _).trans (hf _))
  · exact h1.trans ((hf _).trans (hg _))

/-! ### Admission -/

/-- An admission enters one item. -/
theorem admitItem (leading : Position) (footprint : Nat) (identity : Identity) (s : State) :
    Accounted s (admitItem leading footprint identity s) := by
  unfold Machine.admitItem
  dsimp only
  refine followed (t := s.onTrack fun t =>
    { t with
      records := t.records ++ [newRecord leading footprint identity s]
      sequence := (newRecord leading footprint identity s).tag
      admitted := t.admitted + 1 }) (of_step ?_) (by simp)
  have hheld : ∀ tr : Track, tr.records = s.track.records ++ [newRecord leading footprint identity s] →
      itemsHeld { s with track := tr } = itemsHeld s + 1 := by
    intro tr htr
    simp only [itemsHeld, htr, List.length_append, List.length_singleton]
    omega
  simp only [ledger, State.onTrack, hheld]
  exact .enter (l := ledger s)

theorem admitEntry (e : PendingEntry) (s : State) : Accounted s (admitEntry e s) := by
  unfold Machine.admitEntry
  extract_lets found s1
  have h1 : ledger s1 = ledger s := by
    simp only [s1]
    split <;> rfl
  split
  · exact (admitItem _ _ _ _).preceded h1
  · exact (admitItem _ _ _ _).preceded h1

theorem letGo (e : PendingEntry) (rest : List PendingEntry) (s : State) : Accounted s (letGo e rest s) := by
  have h1 : ledger (removeEntry e rest s) = ledger s := rfl
  unfold Machine.letGo
  dsimp only
  split
  · exact (admitEntry e _).preceded h1
  · exact of_eq (by simp [h1])

theorem examineHeads (n : Nat) (s : State) : Accounted s (examineHeads n s) := by
  induction n generalizing s with
  | zero => exact refl s
  | succ n ih =>
    unfold Machine.examineHeads
    split
    · exact refl s
    · split
      · exact (letGo _ _ s).trans (ih _)
      · exact refl s

theorem examineHead (s : State) : Accounted s (examineHead s) := by
  unfold Machine.examineHead
  split
  · exact examineHeads _ s
  · exact refl s

theorem discardHeads (n : Nat) (s : State) : Accounted s (discardHeads n s) := by
  induction n generalizing s with
  | zero => exact refl s
  | succ n ih =>
    unfold Machine.discardHeads
    split
    · exact refl s
    · split
      · exact (ih _).preceded rfl
      · exact refl s

theorem admissionAdvance (s : State) : Accounted s (admissionAdvance s) := by
  unfold Machine.admissionAdvance
  split
  · exact examineHeads _ s
  · exact examineHeads _ s
  · exact discardHeads _ s
  · exact refl s

/-! ### Retirement -/

/-- A retirement gives up one item, as RESIDUE or as MISSED. -/
theorem retireHead {r : TrackRecord} {rest : List TrackRecord} (hs : s.track.records = r :: rest) :
    Accounted s (retireHead r rest s) := by
  have hheld : ∀ tr : Track, tr.records = rest → itemsHeld s = itemsHeld { s with track := tr } + 1 := by
    intro tr htr
    simp only [itemsHeld, hs, htr, List.length_cons]
    omega
  unfold Machine.retireHead
  extract_lets s1
  have h1 : Accounted s s1 := by
    simp only [s1, State.onTrack]
    split
    · exact of_step (.residue _ (hheld _ rfl))
    · exact of_step (.miss _ (hheld _ rfl))
  split
  · exact h1.followed (by simp)
  · exact h1

theorem retireHeads (n : Nat) (s : State) : Accounted s (retireHeads n s) := by
  induction n generalizing s with
  | zero => exact refl s
  | succ n ih =>
    unfold Machine.retireHeads
    split
    · exact refl s
    · next hr =>
      split
      · exact (retireHead hr).trans (ih _)
      · exact refl s

theorem trackAdvance (s : State) : Accounted s (trackAdvance s) :=
  (retireHeads _ _).preceded (ledger_evaluateTrack s)

/-! ### Confirmations, timeouts and discards -/

/-- A confirmation gives up the oldest entry as SORTED, at its outlet and device-level. -/
theorem removeSorted {k : OutletId} {e : ConfirmEntry} {rest : List ConfirmEntry}
    (hq : s.outlets[k].queue = e :: rest) : Accounted s (removeSorted k rest s) := by
  obtain ⟨n, hn, hlen⟩ := held_of_queue hq
  have hl := ledger_onOutlet_eq s (k := k) (a := (ledger s).outletSorted + 1)
    (f := fun o => { o with queue := rest, sorted := o.sorted + 1, consecutive := 0 }) hlen (by ring) rfl
  refine of_step ?_
  have hafter : ledger (Machine.removeSorted k rest s) =
      { ledger s with held := n, sorted := s.track.sorted + 1, outletSorted := (ledger s).outletSorted + 1 } := by
    unfold Machine.removeSorted
    exact congrArg (fun l : Ledger => { l with sorted := s.track.sorted + 1 }) hl
  rw [hafter]
  exact .sort n hn

/-- A timeout gives up the head entry as UNCONFIRMED, at its outlet and device-level. -/
theorem timeoutHead {k : OutletId} {e : ConfirmEntry} {rest : List ConfirmEntry}
    (hq : s.outlets[k].queue = e :: rest) : Accounted s (timeoutHead k s) := by
  obtain ⟨n, hn, hlen⟩ := held_of_queue hq
  have hl := ledger_onOutlet_eq s (k := k) (b := (ledger s).outletUnconfirmed + 1)
    (f := fun o =>
      { o with
        queue := o.queue.tail
        unconfirmed := o.unconfirmed + 1
        consecutive := min (o.consecutive + 1) 3 }) (by rwa [hq] at hlen ⊢) rfl (by ring)
  unfold Machine.timeoutHead
  extract_lets before jams s1
  have h1 : Accounted s s1 := by
    have hafter : ledger s1 =
        { ledger s with
          held := n
          unconfirmed := s.track.unconfirmed + 1
          outletUnconfirmed := (ledger s).outletUnconfirmed + 1 } :=
      congrArg (fun l : Ledger => { l with unconfirmed := s.track.unconfirmed + 1 }) hl
    exact of_step (hafter ▸ .giveUp n hn)
  split
  · exact h1.followed (by simp)
  · exact h1

/-- A discard gives up every item as ABANDONED. -/
theorem discardItems (s : State) : Accounted s (discardItems s) := by
  have hempty := discardItems_emptied s
  have hheld : itemsHeld (Machine.discardItems s) = 0 := itemsHeld_of_empty hempty.records hempty.queues
  have hsame : ∀ f : Outlet → ShortCount, (∀ o : Outlet, f { o with queue := [] } = f o) →
      ((Machine.discardItems s).outlets.toList.map f).sum = (s.outlets.toList.map f).sum := fun f hf =>
    sum_outlets_congr f fun k => by simp [Machine.discardItems, hf]
  refine of_step ?_
  have hafter : ledger (Machine.discardItems s) =
      { ledger s with held := 0, abandoned := s.track.abandoned + BitVec.ofNat 32 (itemsHeld s) } := by
    simp only [ledger, hheld, hsame (fun o => o.sorted) fun _ => rfl, hsame (fun o => o.unconfirmed) fun _ => rfl]
    rfl
  rw [hafter]
  exact .abandon

end Accounted

end Sys2Proof.Machine
end

section
namespace Sys2Proof.Machine

open Sys2Proof

variable {s t : State}

/-! ## Request handlers that make no entry -/

/-- A handler that makes no entry. -/
def MakesNoEntry (handle : Request → State → State) : Prop := ∀ q s, ledger (handle q s) = ledger s

namespace MakesNoEntry

theorem answerRead (f : Request → State → Option (List Byte)) : MakesNoEntry (answerRead f) := fun q s => by
  unfold Machine.answerRead
  split <;> simp

theorem handleStart : MakesNoEntry handleStart := fun q s => by
  unfold Machine.handleStart
  split <;> simp

theorem handleDrain : MakesNoEntry handleDrain := fun q s => by
  unfold Machine.handleDrain
  split <;> simp

theorem handleSetGeometry : MakesNoEntry handleSetGeometry := fun q s => by
  unfold Machine.handleSetGeometry
  dsimp only
  split
  · split <;> simp
  · simp

theorem handleSetSpeedCodes : MakesNoEntry handleSetSpeedCodes := fun q s => by
  unfold Machine.handleSetSpeedCodes
  dsimp only
  split <;> simp

theorem handleSetAir : MakesNoEntry handleSetAir := fun q s => by
  unfold Machine.handleSetAir writeAir
  dsimp only
  split
  · simp
  · split
    · split <;> simp
    · simp

theorem withOutlet {f : Request → OutletId → State → State} (hf : ∀ q k s, ledger (f q k s) = ledger s) :
    MakesNoEntry fun q s => withOutlet q (f q) s := fun q s => by
  dsimp only
  unfold Machine.withOutlet
  split
  · simp
  · split
    · exact hf ..
    · simp

theorem handleMask : MakesNoEntry handleMask := withOutlet fun q k s => by simp

theorem handleUnmask : MakesNoEntry handleUnmask := withOutlet fun q k s => by simp

theorem handleSetCrate : MakesNoEntry handleSetCrate := withOutlet fun q k s => by
  dsimp only
  split
  · simp
  · split <;> simp

theorem handleReloadCrate : MakesNoEntry handleReloadCrate := withOutlet fun q k s => by
  dsimp only
  split <;> simp

theorem handleClearJam : MakesNoEntry handleClearJam := withOutlet fun q k s => by
  split <;> simp

theorem handleSetPlaceTiming : MakesNoEntry handleSetPlaceTiming := fun q s => by
  unfold Machine.handleSetPlaceTiming
  split <;> simp

theorem handleSetOutletPlace : MakesNoEntry handleSetOutletPlace := fun q s => by
  unfold Machine.handleSetOutletPlace
  split
  · simp
  · split
    · simp
    · split
      · simp
      · split <;> simp

theorem handleSetRoute : MakesNoEntry handleSetRoute := fun q s => by
  unfold Machine.handleSetRoute writeRoute
  split
  · split
    · split
      · split
        · simp
        · split <;> simp
      · simp
    · simp
  · simp

theorem withChannel {f : Request → ChannelId → State → State} (hf : ∀ q c s, ledger (f q c s) = ledger s) :
    MakesNoEntry fun q s => withChannel q (f q) s := fun q s => by
  dsimp only
  unfold Machine.withChannel
  split
  · simp
  · split
    · exact hf ..
    · simp

theorem handleSetChannel : MakesNoEntry handleSetChannel := withChannel fun q c s => by
  split
  · split
    · split <;> simp
    · simp
  · simp

theorem handleEnableChannel : MakesNoEntry handleEnableChannel := withChannel fun q c s => by
  split <;> simp

theorem handleChannelOff : MakesNoEntry handleChannelOff := withChannel fun q c s => by
  dsimp only
  split <;> simp

theorem withAccount {allowed : Fin 6 → StationId → Bool} {f : Request → Fin 6 → Fin 6 → State → State}
    (hf : ∀ q c i s, ledger (f q c i s) = ledger s) :
    MakesNoEntry fun q s => withAccount q allowed (f q) s := fun q s => by
  dsimp only
  unfold Machine.withAccount
  split
  · split
    · exact hf ..
    · simp
  · simp

theorem handleIssue : MakesNoEntry handleIssue := withAccount fun q c f s => by
  dsimp only
  split <;> simp [takeChange]

theorem handleAdjust : MakesNoEntry handleAdjust := withAccount fun q c f s => by
  dsimp only
  split <;> simp [takeChange]

theorem handleSetValue : MakesNoEntry handleSetValue := withAccount fun q c f s => by simp [takeChange]

theorem handleSetThreshold : MakesNoEntry handleSetThreshold := withAccount fun q c f s => by
  dsimp only
  split <;> simp [takeChange]

theorem handleClearFlags : MakesNoEntry handleClearFlags := withAccount fun q c f s => by simp [writeAccount]

theorem handleSetBalanceMode : MakesNoEntry handleSetBalanceMode := fun q s => by
  unfold Machine.handleSetBalanceMode
  split
  · simp
  · split
    · split <;> simp
    · simp

theorem handleSetNoticeMask : MakesNoEntry handleSetNoticeMask := fun _ _ => rfl

theorem handlePollNotices : MakesNoEntry handlePollNotices := fun q s => by
  have hplaced : ∀ (l : List Notice) (s : State),
      ledger (l.foldl (fun s n => placeFrame (noticeFrame q.station n) s) s) = ledger s :=
    ledger_foldl fun _ _ => rfl
  unfold Machine.handlePollNotices
  dsimp only
  split <;> simp [hplaced]

end MakesNoEntry

/-! ## The commands -/

namespace Accounted

theorem takeEdge {input : GateInput} {rising : Bool} {e : FilteredEdge}
    (he : takeEdge input rising s = some (e, t)) : ledger t = ledger s := by
  obtain ⟨-, -, others, -, rfl⟩ := takeEdge_some he
  rfl

/-- The end of an event makes no entry. -/
theorem settled (h : Accounted s t) : Accounted s (settleLine t) := h.followed (ledger_settleLine t)

theorem confirmationEvent (k : OutletId) (before : Bool) (s : State) :
    Accounted s (confirmationEvent k before s) := by
  unfold Machine.confirmationEvent
  dsimp only
  split
  · exact refl s
  · split
    · exact of_eq (by simp)
    · next hq =>
      split
      · exact (removeSorted hq).followed (by simp)
      · exact removeSorted hq

theorem trailingEdge (position : Position) (s : State) : Accounted s (trailingEdge position s) := by
  unfold Machine.trailingEdge
  dsimp only
  split
  · exact settled ((examineHead _).preceded rfl)
  · exact of_eq rfl

theorem takeTrailingEdge (s : State) : Accounted s (takeTrailingEdge s) := by
  unfold Machine.takeTrailingEdge
  split
  · exact refl s
  · next he => exact (trailingEdge _ _).preceded (takeEdge he)

theorem takeLeadingEdge (s : State) : Accounted s (takeLeadingEdge s) := by
  unfold Machine.takeLeadingEdge
  split
  · exact refl s
  · next he =>
    unfold leadingEdge openEntry
    dsimp only
    refine preceded (of_eq ?_) (takeEdge he)
    split <;> simp

theorem takeChuteRising (k : OutletId) (s : State) : Accounted s (takeChuteRising k s) := by
  unfold Machine.takeChuteRising
  split
  · exact refl s
  · next he =>
    refine preceded ?_ (takeEdge he)
    split
    · exact (confirmationEvent k _ _).settled
    · exact refl _

theorem takeReadyFalling (k : OutletId) (s : State) : Accounted s (takeReadyFalling k s) := by
  unfold Machine.takeReadyFalling
  split
  · exact refl s
  · next he =>
    refine preceded ?_ (takeEdge he)
    split
    · exact refl _
    · exact settled ((confirmationEvent k _ _).followed (ledger_reportLoss k _ _))

theorem takeReadyRising (k : OutletId) (s : State) : Accounted s (takeReadyRising k s) := by
  unfold Machine.takeReadyRising
  split
  · exact refl s
  · next he => exact of_eq (takeEdge he)

theorem takeCrateFalling (k : OutletId) (s : State) : Accounted s (takeCrateFalling k s) := by
  unfold Machine.takeCrateFalling
  split
  · exact refl s
  · next he => exact of_eq ((ledger_removeCrate ..).trans (takeEdge he))

theorem takeCrateRising (k : OutletId) (s : State) : Accounted s (takeCrateRising k s) := by
  unfold Machine.takeCrateRising
  split
  · exact refl s
  · next he => exact of_eq ((ledger_placeCrate ..).trans (takeEdge he))

theorem handOldest (s : State) : Accounted s (handOldest s) := by
  unfold Machine.handOldest
  split
  · exact refl s
  · split
    · exact takeLeadingEdge s
    · exact takeTrailingEdge s
    · exact takeChuteRising _ s
    · exact of_eq rfl
    · exact takeCrateRising _ s
    · exact takeCrateFalling _ s
    · exact takeReadyRising _ s
    · exact takeReadyFalling _ s

theorem handEdges (n : Nat) (s : State) : Accounted s (handEdges n s) := by
  induction n generalizing s with
  | zero => exact refl s
  | succ n ih => exact (handOldest s).trans (ih _)

theorem matchRecord (capture : CaptureNumber) (identity : Identity) (s : State) :
    Accounted s (matchRecord capture identity s) := by
  unfold Machine.matchRecord
  split
  · exact of_eq rfl
  · split
    · exact of_eq rfl
    · dsimp only
      split
      · exact settled ((examineHead _).preceded rfl)
      · exact of_eq rfl

theorem takeByte (value : Byte) (framingError : Bool) (s : State) : Accounted s (takeByte value framingError s) := by
  unfold Machine.takeByte
  split
  · split
    · exact of_eq rfl
    · exact refl s
  · split
    · exact of_eq rfl
    · split
      · exact of_eq rfl
      · unfold completeRecord
        split
        · exact of_eq rfl
        · exact (matchRecord _ _ _).preceded rfl

theorem oldestRequest {isFor : Request → Bool} {places : Nat} {q : Request}
    (ho : oldestRequest isFor places s = some (q, t)) : ledger t = ledger s := by
  unfold Machine.oldestRequest at ho
  split at ho
  · cases ho
  · split at ho
    · cases ho; rfl
    · cases ho

theorem takeRequestWith {places code length : Nat} {linkOnly : Bool} {handle : Request → State → State}
    (hh : ∀ q s, Accounted s (handle q s)) (s : State) :
    Accounted s (takeRequestWith places code length linkOnly handle s) := by
  unfold Machine.takeRequestWith
  split
  · exact refl s
  · next ho =>
    refine preceded ?_ (oldestRequest ho)
    split
    · exact of_eq rfl
    · split
      · exact of_eq rfl
      · exact hh _ _

/-- The taking of a request whose handler makes no entry. -/
theorem takeRequest {code length : Nat} {linkOnly : Bool} {handle : Request → State → State}
    (hh : MakesNoEntry handle) (s : State) : Accounted s (takeRequest code length linkOnly handle s) :=
  takeRequestWith (fun q s => of_eq (hh q s)) s

theorem handleStop (q : Request) (s : State) : Accounted s (handleStop q s) := by
  unfold Machine.handleStop
  split
  · exact of_eq rfl
  · refine followed ((discardItems _).preceded ?_) ((ledger_driveOutputs _).trans (ledger_cutPulses _))
    simp

theorem handleResume (q : Request) (s : State) : Accounted s (handleResume q s) := by
  unfold Machine.handleResume
  split
  · split
    · refine settled ((inEitherOrder examineHead (fun s => of_eq (ledger_examine s)) _).preceded ?_)
      simp
    · exact of_eq rfl
  all_goals exact of_eq rfl

theorem ledger_initializeBlocks (s : State) : ledger (initializeBlocks s) = ledger s := by
  unfold initializeBlocks
  simp only [ledger_onLink, ledger_onChannels]
  rw [ledger_onOutlets _ fun k => by simp]
  rfl

theorem handleInitialize (q : Request) (s : State) : Accounted s (handleInitialize q s) := by
  unfold Machine.handleInitialize
  dsimp only
  refine followed (t := Machine.discardItems _) ((discardItems _).preceded rfl) ?_
  rw [ledger_driveOutputs, ledger_raiseNotice, ledger_respond, ledger_initializeBlocks, ledger_cutPulses]
  rfl

theorem execEncoderEvent (p : Phases) (hx : execEncoderEvent p s = .next t) : Accounted s t := by
  unfold Machine.execEncoderEvent at hx
  split at hx
  · exact keeps_next (refl s) hx
  · refine keeps_next ?_ hx
    unfold forwardStep
    split
    · exact of_eq rfl
    · exact settled ((inEitherOrder admissionAdvance trackAdvance _).preceded rfl)
  · refine keeps_next ?_ hx
    exact of_eq (ledger_reverseStep _)
  · refine keeps_next ?_ hx
    exact of_eq rfl

/-- A command that makes no entry. -/
theorem next_of_eq {u : State} (hx : (.next u : Result) = .next t) (hu : ledger u = ledger s) : Accounted s t :=
  keeps_next (of_eq hu) hx

theorem execSpeedIntervalClose (hx : execSpeedIntervalClose s = .next t) : Accounted s t := by
  unfold Machine.execSpeedIntervalClose at hx
  split at hx
  · exact next_of_eq hx (by simp [recomputeLeads, closeInterval])
  · exact keeps_next (refl s) hx

theorem execFrameTimerExpiry (hx : execFrameTimerExpiry s = .next t) : Accounted s t := by
  unfold Machine.execFrameTimerExpiry at hx
  split at hx
  · exact keeps_next (refl s) hx
  · split at hx
    · exact next_of_eq hx rfl
    · exact keeps_next (refl s) hx

theorem execCaptureMessageBegin (hx : execCaptureMessageBegin s = .next t) : Accounted s t := by
  unfold Machine.execCaptureMessageBegin at hx
  split at hx
  · exact next_of_eq hx rfl
  · exact keeps_next (refl s) hx

theorem execPulseEnd (k : OutletId) (hx : execPulseEnd k s = .next t) : Accounted s t := by
  unfold Machine.execPulseEnd at hx
  split at hx
  · exact keeps_next (refl s) hx
  · split at hx
    · exact next_of_eq hx (by simp)
    · exact keeps_next (refl s) hx

/-- A queue whose head has a deadline has a head. -/
theorem queue_of_headDeadline {queue : List ConfirmEntry} {d : Nat} (h : headDeadline queue = some d) :
    ∃ e rest, queue = e :: rest := by
  cases queue with
  | nil => cases h
  | cons e rest => exact ⟨e, rest, rfl⟩

theorem execConfirmTimeout (k : OutletId) (hx : execConfirmTimeout k s = .next t) : Accounted s t := by
  unfold Machine.execConfirmTimeout at hx
  split at hx
  · exact keeps_next (refl s) hx
  · next hd =>
    obtain ⟨e, rest, hq⟩ := queue_of_headDeadline hd
    split at hx
    · exact keeps_next (timeoutHead hq).settled hx
    · exact keeps_next (refl s) hx

theorem execSettleTimeExpiry (c : ChannelId) (hx : execSettleTimeExpiry c s = .next t) : Accounted s t := by
  unfold Machine.execSettleTimeExpiry at hx
  split at hx
  · split at hx
    · exact next_of_eq hx rfl
    · exact keeps_next (refl s) hx
  · exact keeps_next (refl s) hx

theorem execChannelSample (c : ChannelId) (above : Bool) (hx : execChannelSample c above s = .next t) :
    Accounted s t := by
  unfold Machine.execChannelSample at hx
  split at hx
  · exact keeps_next (refl s) hx
  · split at hx
    · split at hx
      · exact next_of_eq hx (by simp [scheduleSample])
      · exact next_of_eq hx (by simp [scheduleSample])
      · exact keeps_next (refl s) hx
      · exact keeps_next (refl s) hx
    · exact keeps_next (refl s) hx

theorem execFrameArrival (frame : CanFrame) (remote : Bool) (hx : execFrameArrival frame remote s = .next t) :
    Accounted s t := by
  unfold Machine.execFrameArrival at hx
  split at hx
  · exact keeps_next (refl s) hx
  · split at hx
    · exact keeps_next (refl s) hx
    · refine next_of_eq hx ?_
      unfold receiveRequest
      split <;> rfl

theorem execFrameTransmitted (hx : execFrameTransmitted s = .next t) : Accounted s t := by
  unfold Machine.execFrameTransmitted at hx
  split at hx
  · exact next_of_eq hx rfl
  · exact keeps_next (refl s) hx

theorem execFrameTransmissionBegin (hx : execFrameTransmissionBegin s = .next t) : Accounted s t := by
  unfold Machine.execFrameTransmissionBegin at hx
  split at hx
  · exact keeps_next (refl s) hx
  · exact next_of_eq hx rfl

theorem execUnassignedRequestCode (hx : execUnassignedRequestCode s = .next t) : Accounted s t := by
  unfold Machine.execUnassignedRequestCode at hx
  split at hx
  · exact keeps_next (refl s) hx
  · next ho => exact next_of_eq hx ((ledger_respond ..).trans (oldestRequest ho))

/-- Every command but power-on keeps the ledger by its entries. -/
theorem exec {c : Instr} (hc : ∀ p e, c ≠ .powerOn p e) (hx : exec c s = .next t) : Accounted s t := by
  cases c with
  | powerOn p e => exact absurd rfl (hc p e)
  | encoderEvent p => exact execEncoderEvent p hx
  | speedIntervalClose => exact execSpeedIntervalClose hx
  | geLeadingEdge => exact keeps_next (takeLeadingEdge s) hx
  | geTrailingEdge => exact keeps_next (takeTrailingEdge s) hx
  | chuteGateRising k => exact keeps_next (takeChuteRising k s) hx
  | crateRemoved k => exact keeps_next (takeCrateFalling k s) hx
  | cratePlaced k => exact keeps_next (takeCrateRising k s) hx
  | readyLineRising k => exact keeps_next (takeReadyRising k s) hx
  | readyLineFalling k => exact keeps_next (takeReadyFalling k s) hx
  | receiveByte value framingError => exact keeps_next (takeByte value framingError s) hx
  | frameTimerExpiry => exact execFrameTimerExpiry hx
  | captureMessageBegin => exact execCaptureMessageBegin hx
  | captureMessageSent => exact next_of_eq hx rfl
  | pulseEnd k => exact execPulseEnd k hx
  | confirmTimeout k => exact execConfirmTimeout k hx
  | estopAssertion => exact next_of_eq hx (by simp)
  | estopRelease => exact next_of_eq hx rfl
  | settleTimeExpiry c => exact execSettleTimeExpiry c hx
  | channelSample c above => exact execChannelSample c above hx
  | frameArrival frame remote => exact execFrameArrival frame remote hx
  | frameTransmitted => exact execFrameTransmitted hx
  | unassignedRequestCode => exact execUnassignedRequestCode hx
  | start => exact keeps_next (takeRequest .handleStart s) hx
  | drain => exact keeps_next (takeRequest .handleDrain s) hx
  | stop => exact keeps_next (takeRequestWith handleStop s) hx
  | resume => exact keeps_next (takeRequestWith handleResume s) hx
  | initializeLine => exact keeps_next (takeRequestWith handleInitialize s) hx
  | setGeometry => exact keeps_next (takeRequest .handleSetGeometry s) hx
  | setSpeedCodes => exact keeps_next (takeRequest .handleSetSpeedCodes s) hx
  | setAir => exact keeps_next (takeRequest .handleSetAir s) hx
  | setPlaceTiming => exact keeps_next (takeRequest .handleSetPlaceTiming s) hx
  | setOutletPlace => exact keeps_next (takeRequest .handleSetOutletPlace s) hx
  | mask => exact keeps_next (takeRequest .handleMask s) hx
  | unmask => exact keeps_next (takeRequest .handleUnmask s) hx
  | setCrate => exact keeps_next (takeRequest .handleSetCrate s) hx
  | reloadCrate => exact keeps_next (takeRequest .handleReloadCrate s) hx
  | clearJam => exact keeps_next (takeRequest .handleClearJam s) hx
  | setRoute => exact keeps_next (takeRequest .handleSetRoute s) hx
  | setChannel => exact keeps_next (takeRequest .handleSetChannel s) hx
  | enableChannel => exact keeps_next (takeRequest .handleEnableChannel s) hx
  | channelOff => exact keeps_next (takeRequest .handleChannelOff s) hx
  | issue => exact keeps_next (takeRequest .handleIssue s) hx
  | adjust => exact keeps_next (takeRequest .handleAdjust s) hx
  | setValue => exact keeps_next (takeRequest .handleSetValue s) hx
  | setBalanceMode => exact keeps_next (takeRequest .handleSetBalanceMode s) hx
  | setThreshold => exact keeps_next (takeRequest .handleSetThreshold s) hx
  | clearFlags => exact keeps_next (takeRequest .handleClearFlags s) hx
  | readLine => exact keeps_next (takeRequest (.answerRead _) s) hx
  | readOutlet => exact keeps_next (takeRequest (.answerRead _) s) hx
  | readConfirmQueue => exact keeps_next (takeRequest (.answerRead _) s) hx
  | readTrackEntry => exact keeps_next (takeRequest (.answerRead _) s) hx
  | readPending => exact keeps_next (takeRequest (.answerRead _) s) hx
  | readRoute => exact keeps_next (takeRequest (.answerRead _) s) hx
  | readChannel => exact keeps_next (takeRequest (.answerRead _) s) hx
  | readBalance => exact keeps_next (takeRequest (.answerRead _) s) hx
  | readCounts => exact keeps_next (takeRequest (.answerRead _) s) hx
  | setNoticeMask => exact keeps_next (takeRequest .handleSetNoticeMask s) hx
  | pollNotices =>
    exact keeps_next (takeRequestWith (fun q s => of_eq (MakesNoEntry.handlePollNotices q s)) s) hx
  | inputSample ge chutes crates readies => 
    refine keeps_next ?_ hx
    exact (handEdges _ s).followed rfl
  | frameTransmissionBegin => exact execFrameTransmissionBegin hx

end Accounted

/-- The ledger after power-on is empty. -/
theorem ledger_powerOn (p : Phases) (e : Bool) (s : State) :
    ledger { State.powerOn p e with draws := s.draws, pending := s.pending } =
      { held := 0, admitted := 0, sorted := 0, unconfirmed := 0, residue := 0, missed := 0, abandoned := 0,
        outletSorted := 0, outletUnconfirmed := 0 } := rfl

/-- What every entry keeps, and the empty ledger has, every step keeps. -/
theorem ledger_step {P : Ledger → Prop} (hP : ∀ {l l'}, LedgerStep l l' → P l → P l')
    (h0 : ∀ p e (s : State), P (ledger { State.powerOn p e with draws := s.draws, pending := s.pending }))
    (hs : P (ledger s)) (hx : step s = .next t) : P (ledger t) := by
  unfold step at hx
  split at hx
  · exact keeps_next (P := fun u => P (ledger u)) hs hx
  · next c rest _ =>
    by_cases hc : ∃ p e, c = .powerOn p e
    · obtain ⟨p, e, rfl⟩ := hc
      exact keeps_next (P := fun u => P (ledger u)) (h0 p e _) hx
    · have hacc : Accounted s t :=
        (Accounted.exec (fun p e hc' => hc ⟨p, e, hc'⟩) hx).preceded rfl
      exact hacc.keeps hP hs

theorem conserved_powerOn (p : Phases) (e : Bool) (s : State) :
    (ledger { State.powerOn p e with draws := s.draws, pending := s.pending }).Conserved := by
  rw [ledger_powerOn]
  unfold Ledger.Conserved
  decide

theorem agrees_powerOn (p : Phases) (e : Bool) (s : State) :
    (ledger { State.powerOn p e with draws := s.draws, pending := s.pending }).Agrees := by
  rw [ledger_powerOn]
  unfold Ledger.Agrees
  decide

end Sys2Proof.Machine

open Sys2Proof Sys2Proof.Machine

/-- Settles O4: each command but power-on moves the ledger by entries, and each entry keeps both accounts. -/
theorem stepConservesItems : Obligations.StepConservesItems :=
  ⟨fun _ _ hs hx => ledger_step LedgerStep.conserved conserved_powerOn hs hx,
    fun _ _ hs hx => ledger_step LedgerStep.agrees agrees_powerOn hs hx⟩
end

section
/-! SUPPORT. The invariants right after power-on, whatever stands at the pins. -/

namespace Sys2Proof.Machine

open Sys2Proof

variable (p : Phases) (e : Bool) (s : State)

theorem divertersSafe_powerOn : DivertersSafe { State.powerOn p e with draws := s.draws, pending := s.pending } := by
  refine ⟨.inr rfl, Nat.zero_le 2, fun k hk => ?_⟩
  simp [energised, State.powerOn, Air.powerOn] at hk

theorem balancesSound_powerOn : BalancesSound { State.powerOn p e with draws := s.draws, pending := s.pending } := by
  intro c f
  simp [State.powerOn, Balance.powerOn]

theorem outletsSound_powerOn : OutletsSound { State.powerOn p e with draws := s.draws, pending := s.pending } := by
  intro k
  simp [State.powerOn, Outlet.powerOn, OutletTiming.powerOn]

theorem geometrySound_powerOn : GeometrySound { State.powerOn p e with draws := s.draws, pending := s.pending } := by
  refine ⟨fun k => ?_, fun k d hd => ?_, fun j k dj dk _ hj => ?_, ?_, fun e he => ?_, ?_, ?_⟩
  · simp [State.powerOn, OutletTiming.powerOn]
  · simp [State.powerOn, OutletTiming.powerOn] at hd
  · simp [State.powerOn, OutletTiming.powerOn] at hj
  · simp [State.powerOn, Geometry.powerOn]
  · cases he
  · simp [State.powerOn, Line.powerOn]
  · simp [State.powerOn, Line.powerOn]

theorem routesSound_powerOn : RoutesSound { State.powerOn p e with draws := s.draws, pending := s.pending } := by
  intro row c
  simp [State.powerOn, RouteRow.powerOn]

theorem capturesSound_powerOn : CapturesSound { State.powerOn p e with draws := s.draws, pending := s.pending } :=
  (capturesSound_iff _).2 (.empty _)

theorem edgesSound_powerOn : EdgesSound { State.powerOn p e with draws := s.draws, pending := s.pending } :=
  ⟨List.nodup_nil, by simp [State.powerOn, Sensing.powerOn]⟩

theorem supervisionSound_powerOn :
    SupervisionSound { State.powerOn p e with draws := s.draws, pending := s.pending } := by
  refine ⟨fun c => ?_, rfl, rfl, rfl⟩
  simp only [State.powerOn, powerOn_channels c]
  simp

end Sys2Proof.Machine

open Sys2Proof Sys2Proof.Machine

/-- Settles O3: reset is a power-on, and each invariant holds right after one. -/
theorem resetMeetsTheInvariants : Obligations.ResetMeetsTheInvariants :=
  let p : Phases := { phase1 := false, phase2 := false }
  ⟨conserved_powerOn p false .reset, agrees_powerOn p false .reset, divertersSafe_powerOn p false .reset,
    powerOn_outputsDriven p false .reset, (standbyHoldsNothing_iff _).2 fun _ => powerOn_beltEmpty p false .reset,
    balancesSound_powerOn p false .reset, outletsSound_powerOn p false .reset, geometrySound_powerOn p false .reset,
    routesSound_powerOn p false .reset, capturesSound_powerOn p false .reset, ⟨Nat.zero_le _, linkKept_powerOn⟩,
    quantities_powerOn p false .reset, supervisionSound_powerOn p false .reset, edgesSound_powerOn p false .reset,
    (bidsKept_iff_requestsSound _).1 (bidsKept_powerOn False p false .reset),
    (bidsKept_iff_bidsSound _).1 (bidsKept_powerOn True p false .reset)⟩
end

section
/-! SUPPORT. The windows of a record along the belt: the offset distance after a move of either position, and the three
classifications (R43, R65, R66, R74). -/

namespace Sys2Proof.Machine

open Sys2Proof

/-- A difference of positions is the number it is known to stand for, within half the belt. -/
theorem signedDiff_eq {x y : Position} {i : Int} (h : x - y = BitVec.ofInt 20 i) (hl : -524288 ≤ i) (hu : i < 524288) :
    signedDiff x y = i := by
  rw [signedDiff, h]
  exact BitVec.toInt_ofInt_eq_self (by decide) hl hu

/-- The distance to a point further downstream. -/
theorem signedDiff_downstreamBy {x y : Position} {n : Nat} (h : -524288 ≤ signedDiff x y - n) :
    signedDiff x (downstreamBy y n) = signedDiff x y - n := by
  have hu : signedDiff x y < 524288 := BitVec.toInt_lt ..
  refine signedDiff_eq ?_ h (by omega)
  rw [Int.sub_eq_add_neg, BitVec.ofInt_add, BitVec.ofInt_neg, signedDiff, BitVec.ofInt_toInt, BitVec.ofInt_natCast,
    downstreamBy]
  ring

/-- The distance to a point further upstream. -/
theorem signedDiff_sub {x y : Position} {n : Nat} (h : signedDiff x y + n < 524288) :
    signedDiff x (y - BitVec.ofNat 20 n) = signedDiff x y + n := by
  have hl : -524288 ≤ signedDiff x y := BitVec.le_toInt ..
  refine signedDiff_eq ?_ (by omega) h
  rw [BitVec.ofInt_add, signedDiff, BitVec.ofInt_toInt, BitVec.ofInt_natCast]
  ring

/-! ## The three classifications -/

theorem windowOf_notYet_iff (r : Int) (h lead : Nat) : windowOf r h lead = .notYet ↔ r < -(h : Int) - lead := by
  unfold windowOf
  split
  · simp [*]
  · split <;> simp [*]

theorem windowOf_inWindow_iff (r : Int) (h lead : Nat) :
    windowOf r h lead = .inWindow ↔ -(h : Int) - lead ≤ r ∧ r ≤ -(lead : Int) := by
  unfold windowOf
  split
  · simp; omega
  · split <;> simp <;> omega

theorem windowOf_passed_iff (r : Int) (h lead : Nat) : windowOf r h lead = .passed ↔ -(lead : Int) < r := by
  unfold windowOf
  split
  · simp; omega
  · split <;> simp <;> omega

end Sys2Proof.Machine

open Sys2Proof Sys2Proof.Machine

/-- Settles O25, by the offset distance of each position and the bounds of the three classifications. -/
theorem windowsLieAheadOfAdmission : Obligations.WindowsLieAheadOfAdmission := by
  refine ⟨fun b pl f d lead q hf hf' hd hd' hlead hq h0 hdl => ?_, fun b point h lead hh hlead hl hu => ?_,
    fun r h lead lower hle hr => ?_⟩
  · have hcentre : signedDiff b (downstreamBy pl (f / 2)) = signedDiff b pl - (f / 2 : Nat) :=
      signedDiff_downstreamBy (by omega)
    rw [signedDiff_downstreamBy (by omega), hcentre, windowOf_notYet_iff]
    unfold halfFootprint
    split <;> omega
  · have hopen := signedDiff_sub (x := b) (y := point) (n := h + lead) (by omega)
    have hclose := signedDiff_sub (x := b) (y := point) (n := lead) (by omega)
    have hpast : signedDiff b (point - BitVec.ofNat 20 lead + 1) = signedDiff b point + lead - 1 := by
      rw [← hclose]
      exact signedDiff_downstreamBy (n := 1) (by omega)
    rw [windowOf_notYet_iff, windowOf_inWindow_iff, windowOf_passed_iff, hopen, hclose, hpast]
    push_cast
    omega
  · rw [ne_eq, windowOf_passed_iff] at hr ⊢
    omega
end

section
/-! SUPPORT. The timeout of the head of a confirm queue, and the rising edge of a chute gate (R99 to R103). -/

namespace Sys2Proof.Machine

open Sys2Proof

variable {k : OutletId} {s : State}

/-- Two changes of an outlet that agree on its record are one. -/
theorem State.onOutlet_congr {f g : Outlet → Outlet} (h : f s.outlets[k] = g s.outlets[k]) :
    s.onOutlet k f = s.onOutlet k g := by
  simp only [State.onOutlet, h]

/-! ## Timeouts -/

/-- A queue has a deadline exactly when its head awaits one. -/
theorem headDeadline_eq_some_iff {queue : List ConfirmEntry} {d : Nat} :
    headDeadline queue = some d ↔ ∃ e rest, queue = e :: rest ∧ e.phase = .awaiting d := by
  unfold headDeadline
  split
  · simp
  · next hn =>
    simp only [reduceCtorEq, false_iff, not_exists, not_and]
    rintro ⟨tag, owner, wareClass, phase⟩ rest rfl rfl
    exact hn _ _ _ _ _ rfl

/-- A timeout of a queue whose head and rest are known (R101, R102). -/
theorem timeoutHead_eq {e : ConfirmEntry} {rest : List ConfirmEntry} (hq : s.outlets[k].queue = e :: rest) :
    timeoutHead k s =
      let v := (s.onOutlet k fun o =>
          { o with queue := rest, unconfirmed := o.unconfirmed + 1, consecutive := min (o.consecutive + 1) 3 }).onTrack
        fun t => { t with unconfirmed := t.unconfirmed + 1 }
      if s.outlets[k].consecutive = 2 ∧ s.outlets[k].state = .opened then enterJam k (accepting k s) v else v := by
  unfold timeoutHead
  dsimp only
  rw [State.onOutlet_congr (f := fun o =>
      { o with
        queue := o.queue.tail
        unconfirmed := o.unconfirmed + 1
        consecutive := min (o.consecutive + 1) 3 })
    (g := fun o =>
      { o with queue := rest, unconfirmed := o.unconfirmed + 1, consecutive := min (o.consecutive + 1) 3 })]
  rw [hq, List.tail_cons]

theorem exec_confirmTimeout_due {d : Nat} (h : headDeadline s.outlets[k].queue = some d) (hd : d ≤ s.now) :
    exec (.confirmTimeout k) s = .next (settleLine (timeoutHead k s)) := by
  simp only [exec, execConfirmTimeout, h, if_pos hd]

/-- Before the deadline of the head, or with no head that awaits one, no timeout occurs. -/
theorem exec_confirmTimeout_early (h : ∀ d, headDeadline s.outlets[k].queue = some d → s.now < d) :
    exec (.confirmTimeout k) s = .next s := by
  simp only [exec, execConfirmTimeout]
  split
  · rfl
  · next d hd => exact if_neg (not_le.2 (h d hd))

end Sys2Proof.Machine

open Sys2Proof Sys2Proof.Machine

/-- Settles O42, by the deadline of the head of the queue. -/
theorem confirmTimeoutGivesUp : Obligations.ConfirmTimeoutGivesUp := by
  refine fun k s => ⟨fun e rest d hq hp hd => ?_, fun h => exec_confirmTimeout_early fun d hd => ?_⟩
  · rw [exec_confirmTimeout_due (headDeadline_eq_some_iff.2 ⟨e, rest, hq, hp⟩) hd, timeoutHead_eq hq]
  · obtain ⟨e, rest, hq, hp⟩ := headDeadline_eq_some_iff.1 hd
    exact h e rest d hq hp
end

section
namespace Sys2Proof.Machine

open Sys2Proof

variable {k : OutletId} {s : State}

/-! ## The rising edge of a chute gate -/

theorem exec_chuteGateRising {others : List FilteredEdge}
    (h : s.reports { input := .chuteGate k, rising := true, position := 0 } others) :
    exec (.chuteGateRising k) s = .next (match s.outlets[k].mode with
      | .crate => settleLine (confirmationEvent k (accepting k s) (s.withEdges others))
      | .handoff => s.withEdges others) := by
  have ht : takeEdge (.chuteGate k) true s = some (_, s.withEdges others) := takeEdge_of_reports h
  have ha : accepting k (s.withEdges others) = accepting k s := by
    rw [accepting, filteredState_withEdges h (by simp)]
    rfl
  simp only [exec, execChuteGateRising, takeChuteRising, ht, ha]
  rfl

/-- Where a crate is in place (R103). -/
theorem crateInPlace_iff (sensor : Bool) (o : Outlet) : crateInPlace sensor o = true ↔
    o.state = .opened ∨ o.state = .full ∨ o.state = .held ∨ o.state = .jammed ∧ sensor = true := by
  unfold crateInPlace
  cases o.state <;> simp

/-- One place less, and FULL when it was the last of an OPEN crate (R100, R103). -/
theorem takePlace_eq (before : Bool) (h : 0 < s.outlets[k].currentCount) : takePlace k before s =
    let w := s.onOutlet k fun o => { o with currentCount := o.currentCount - 1 }
    if s.outlets[k].state = .opened ∧ s.outlets[k].currentCount = 1 then enterFull k before w else w := by
  have hlast : s.outlets[k].currentCount - 1 = 0 ∧ s.outlets[k].state = .opened ↔
      s.outlets[k].state = .opened ∧ s.outlets[k].currentCount = 1 := by
    rw [and_comm]
    exact and_congr_right fun _ => by omega
  unfold takePlace
  simp only [State.onOutlet_get, if_true, hlast]

/-- Whether outlet `k` has its crate in place (R103). -/
def HasCrate (k : OutletId) (s : State) : Prop :=
  crateInPlace (filteredState (.crateSensor k) s) s.outlets[k] = true

theorem crateEffect_spill (before : Bool) (h : ¬ HasCrate k s) :
    crateEffect k before s = s.onOutlet k fun o => { o with spill := o.spill + 1 } :=
  if_pos (by simpa [HasCrate] using h)

theorem crateEffect_overfill (before : Bool) (h : HasCrate k s)
    (hf : s.outlets[k].state = .full ∨ s.outlets[k].currentCount = 0) :
    crateEffect k before s = s.onOutlet k fun o => { o with overfill := o.overfill + 1 } := by
  unfold crateEffect HasCrate at *
  simp only [h, Bool.not_true, Bool.false_eq_true, if_false, hf, if_true]

theorem crateEffect_place (before : Bool) (h : HasCrate k s) (hf : s.outlets[k].state ≠ .full)
    (hc : 0 < s.outlets[k].currentCount) : crateEffect k before s = takePlace k before s := by
  unfold crateEffect HasCrate at *
  simp only [h, Bool.not_true, Bool.false_eq_true, if_false, hf, hc.ne', or_self]

/-- A stray takes a place of a crate that is in place and neither FULL nor at a count of 0 (R100). -/
theorem strayEvent_place (before : Bool) (hm : s.outlets[k].mode = .crate) (h : HasCrate k s)
    (hf : s.outlets[k].state ≠ .full) (hc : 0 < s.outlets[k].currentCount) :
    strayEvent k before s = takePlace k before (s.onOutlet k fun o => { o with stray := o.stray + 1 }) :=
  if_pos ⟨hm, h, hf, hc⟩

theorem strayEvent_alone (before : Bool)
    (h : ¬ (HasCrate k s ∧ s.outlets[k].state ≠ .full ∧ 0 < s.outlets[k].currentCount)) :
    strayEvent k before s = s.onOutlet k fun o => { o with stray := o.stray + 1 } :=
  if_neg fun h' => h h'.2

/-- A confirmation event at a configured outlet with an empty queue is a stray (R100). -/
theorem confirmationEvent_of_empty (before : Bool) (hu : s.outlets[k].state ≠ .unconfigured)
    (hq : s.outlets[k].queue = []) : confirmationEvent k before s = strayEvent k before s := by
  simp only [confirmationEvent, hu, if_false, hq]

/-- A confirmation event at a configured CRATE outlet removes the oldest entry and deals with the crate (R99, R103). -/
theorem confirmationEvent_crate (before : Bool) (hm : s.outlets[k].mode = .crate)
    (hu : s.outlets[k].state ≠ .unconfigured) {e : ConfirmEntry} {rest : List ConfirmEntry}
    (hq : s.outlets[k].queue = e :: rest) :
    confirmationEvent k before s = crateEffect k before (removeSorted k rest s) := by
  simp only [confirmationEvent, hu, if_false, hq, hm]

theorem removeSorted_get (rest : List ConfirmEntry) : (removeSorted k rest s).outlets[k] =
    { s.outlets[k] with queue := rest, sorted := s.outlets[k].sorted + 1, consecutive := 0 } := by
  rw [removeSorted, State.onTrack_outlets, State.onOutlet_get, if_pos rfl]

end Sys2Proof.Machine

open Sys2Proof Sys2Proof.Machine

/-- Settles O40, by the cases of the confirmation event of a CRATE outlet. -/
theorem chuteGateConfirms : Obligations.ChuteGateConfirms := by
  intro k others s h u o inPlace takenFrom
  have hx := exec_chuteGateRising h
  have hcrate : ∀ {v : State}, o.mode = .crate → confirmationEvent k (accepting k s) u = v →
      exec (.chuteGateRising k) s = .next (settleLine v) := by
    intro v hm hv
    rw [hx]
    simp only [show s.outlets[k].mode = .crate from hm]
    rw [← hv]
  have hsensor : filteredState (.crateSensor k) u = filteredState (.crateSensor k) s :=
    filteredState_withEdges h (by simp)
  have hplace : crateInPlace (filteredState (.crateSensor k) s) o = true ↔ inPlace := crateInPlace_iff ..
  refine ⟨fun hm => ?_, fun hm hu => hcrate hm ?_, fun hm hu => ⟨fun e rest hq => ?_, fun hq => ?_⟩⟩
  · rw [hx]
    simp only [show s.outlets[k].mode = .handoff from hm]
    rfl
  · simp only [confirmationEvent, show u.outlets[k].state = .unconfigured from hu, if_true]
  · intro v
    have hget : v.outlets[k] = { o with queue := rest, sorted := o.sorted + 1, consecutive := 0 } :=
      removeSorted_get (s := u) rest
    have hplace' : HasCrate k v ↔ inPlace := by
      rw [HasCrate, hget]
      show crateInPlace (filteredState (.crateSensor k) u) _ = true ↔ inPlace
      rw [hsensor]
      exact hplace
    have hevent : confirmationEvent k (accepting k s) u = crateEffect k (accepting k s) v :=
      confirmationEvent_crate (s := u) _ hm hu hq
    have hstate : v.outlets[k].state = o.state := by rw [hget]
    have hcount : v.outlets[k].currentCount = o.currentCount := by rw [hget]
    refine ⟨fun hn => hcrate hm ?_, fun hi hf => hcrate hm ?_, fun hi hf hc => hcrate hm ?_⟩
    · rw [hevent, crateEffect_spill _ (hplace'.not.2 hn)]
    · rw [hevent, crateEffect_overfill _ (hplace'.2 hi) (by rwa [hstate, hcount])]
    · rw [hevent, crateEffect_place _ (hplace'.2 hi) (by rwa [hstate]) (by rwa [hcount]),
        takePlace_eq _ (by rwa [hcount]), hstate,
        hcount]
  · intro v
    have hget : v.outlets[k] = { o with stray := o.stray + 1 } := by
      rw [State.onOutlet_get, if_pos rfl]
      rfl
    have hplace' : HasCrate k u ↔ inPlace := by
      rw [HasCrate, hsensor]
      exact hplace
    have hevent : confirmationEvent k (accepting k s) u = strayEvent k (accepting k s) u :=
      confirmationEvent_of_empty (s := u) _ hu hq
    have hstate : v.outlets[k].state = o.state := by rw [hget]
    have hcount : v.outlets[k].currentCount = o.currentCount := by rw [hget]
    refine ⟨fun ⟨hi, hf, hc⟩ => hcrate hm ?_, fun hn => hcrate hm ?_⟩
    · rw [hevent, strayEvent_place (s := u) _ hm (hplace'.2 hi) hf hc, takePlace_eq _ (by rwa [hcount]), hstate,
        hcount]
    · rw [hevent, strayEvent_alone (s := u) _ fun h' => hn ⟨hplace'.1 h'.1, h'.2⟩]
end

section
/-! SUPPORT. Retirement while no record past the belt end bids for a jet (R53). -/

namespace Sys2Proof.Machine

open Sys2Proof

/-- A retired record counts RESIDUE exactly when it is TO_RESIDUE with its mark clear (R53). -/
def TrackRecord.residual (r : TrackRecord) : Bool := r.state == .toResidue && !r.fallback

/-- The state with the records `gone` retired and `rest` left. -/
def State.retired (gone rest : List TrackRecord) (s : State) : State :=
  s.onTrack fun t =>
    { t with
      records := rest
      residue := t.residue + BitVec.ofNat 32 (gone.countP TrackRecord.residual)
      missed := t.missed + BitVec.ofNat 32 (gone.countP fun r => !r.residual) }

/-- A record that bids for no jet leaves the track and counts, and nothing else happens. -/
theorem retireHead_of_not_requesting {r : TrackRecord} (hr : r.state ≠ .requesting) (rest : List TrackRecord)
    (s : State) : retireHead r rest s = s.retired [r] rest := by
  have hleaves : retireHead r rest s = s.onTrack fun t =>
      if r.state = .toResidue ∧ r.fallback = false then { t with records := rest, residue := t.residue + 1 }
      else { t with records := rest, missed := t.missed + 1 } := by
    unfold retireHead
    dsimp only
    split
    · next hq _ => exact absurd hq hr
    · rfl
  rw [hleaves, State.retired]
  congr 1
  funext t
  by_cases hc : r.state = .toResidue ∧ r.fallback = false
  · have hres : r.residual = true := by simp [TrackRecord.residual, hc]
    simp [hc, hres]
  · have hres : r.residual = false := by simpa [TrackRecord.residual] using hc
    simp [hc, hres]

theorem retired_retired (gone gone' rest rest' : List TrackRecord) (s : State) :
    (s.retired gone rest).retired gone' rest' = s.retired (gone ++ gone') rest' := by
  simp only [State.retired, State.onTrack, List.countP_append, BitVec.ofNat_add, BitVec.add_assoc]

/-- As many retirements as there are records take exactly the leading ones past the belt end. -/
theorem retireHeads_eq (n : Nat) (s : State) (hn : s.track.records.length ≤ n)
    (h : ∀ r ∈ s.track.records.takeWhile (fun r => pastBeltEnd r s), r.state ≠ .requesting) :
    retireHeads n s = s.retired (s.track.records.takeWhile fun r => pastBeltEnd r s)
      (s.track.records.dropWhile fun r => pastBeltEnd r s) := by
  have hnone : ∀ s : State, s.retired [] s.track.records = s := fun s => by simp [State.retired, State.onTrack]
  induction n generalizing s with
  | zero =>
    have hs : s.track.records = [] := List.length_eq_zero_iff.1 (Nat.le_zero.1 hn)
    have := hnone s
    rw [hs] at this ⊢
    exact this.symm
  | succ n ih =>
    unfold retireHeads
    split
    · next hs =>
      have := hnone s
      rw [hs] at this ⊢
      exact this.symm
    · next r rest hs =>
      rw [hs] at h hn ⊢
      split
      · next hp =>
        rw [List.takeWhile_cons_of_pos (p := fun r => pastBeltEnd r s) hp] at h ⊢
        rw [List.dropWhile_cons_of_pos (p := fun r => pastBeltEnd r s) hp, retireHead_of_not_requesting (h r (by simp))]
        have hpast : ∀ x, pastBeltEnd x (s.retired [r] rest) = pastBeltEnd x s := fun _ => rfl
        have hrest : (s.retired [r] rest).track.records = rest := rfl
        rw [ih (s.retired [r] rest) (by simpa [hrest] using hn)
          (by simp only [hpast, hrest]; exact fun x hx => h x (by simp [hx]))]
        simp only [hpast, hrest, retired_retired]
        rfl
      · next hp =>
        rw [List.takeWhile_cons_of_neg (by simpa using hp), List.dropWhile_cons_of_neg (by simpa using hp), ← hs,
          hnone]

end Sys2Proof.Machine

open Sys2Proof Sys2Proof.Machine

/-- Settles O23, by induction on the number of retirements. -/
theorem retirementCountsOutcomes : Obligations.RetirementCountsOutcomes := fun s h => retireHeads_eq _ s le_rfl h
end

section
/-! SUPPORT. What is left of a diversion when no grant follows: only the records and the request set change
(R47, R50). -/

namespace Sys2Proof.Machine

open Sys2Proof

variable {s t u : State}

/-! ## Changes of the records and the request set alone -/

/-- The states differ in the records of the track and the request set alone. -/
def OnlyBids (s t : State) : Prop :=
  ∃ records requests,
    t = { s with track := { s.track with records := records }, air := { s.air with requests := requests } }

namespace OnlyBids

theorem refl (s : State) : OnlyBids s s := ⟨_, _, rfl⟩

theorem trans (h : OnlyBids s t) (g : OnlyBids t u) : OnlyBids s u := by
  obtain ⟨_, _, rfl⟩ := h
  obtain ⟨_, _, rfl⟩ := g
  exact ⟨_, _, rfl⟩

theorem diversion (h : OnlyBids s t) : DiversionFrame s t := by
  obtain ⟨_, _, rfl⟩ := h
  constructor <;> intros <;> simp

theorem airWait (h : OnlyBids s t) : t.air.airWait = s.air.airWait := by
  obtain ⟨_, _, rfl⟩ := h
  rfl

theorem pulses (h : OnlyBids s t) : t.air.pulses = s.air.pulses := by
  obtain ⟨_, _, rfl⟩ := h
  rfl

theorem accepting (h : OnlyBids s t) (k : OutletId) : accepting k t = accepting k s := by
  obtain ⟨_, _, rfl⟩ := h
  rfl

theorem fallbackRecord (h : OnlyBids s t) (r : TrackRecord) : fallbackRecord r t = fallbackRecord r s := by
  obtain ⟨_, _, rfl⟩ := h
  rfl

theorem withRecords (l : List TrackRecord) (s : State) : OnlyBids s (s.withRecords l) := ⟨_, _, rfl⟩

theorem setRequest (k : OutletId) (r : Option SequenceTag) (s : State) : OnlyBids s (setRequest k r s) :=
  ⟨_, _, rfl⟩

theorem withdraw (k : OutletId) (tag : SequenceTag) (s : State) : OnlyBids s (withdraw k tag s) := by
  unfold Machine.withdraw
  split
  · exact setRequest k none s
  · exact refl s

theorem updateRecord (tag : SequenceTag) (f : TrackRecord → TrackRecord) (s : State) :
    OnlyBids s (updateRecord tag f s) := ⟨_, _, rfl⟩

theorem presentQuietly (k : OutletId) (s : State) : OnlyBids s (presentQuietly k s) := by
  unfold Machine.presentQuietly reconsider
  split
  · exact refl s
  · split
    · exact setRequest k none s
    · split
      · exact refl s
      · exact setRequest k _ s

theorem presentTarget (r : TrackRecord) (s : State) : OnlyBids s (presentTarget Machine.presentQuietly r s) := by
  unfold Machine.presentTarget
  split
  · exact presentQuietly _ s
  · exact refl s

theorem turnAway (k : OutletId) (s : State) (tag : SequenceTag) :
    OnlyBids s (turnAway Machine.presentQuietly k s tag) := by
  unfold Machine.turnAway
  split
  · exact refl s
  · split
    · exact (withdraw k tag s).trans ((updateRecord _ _ _).trans (presentTarget _ _))
    · exact refl s

theorem reportLoss (k : OutletId) (before : Bool) (s : State) :
    OnlyBids s (reportLoss Machine.presentQuietly k before s) := by
  unfold Machine.reportLoss
  split
  · exact foldl_keeps (P := OnlyBids s) (fun t tag ht => ht.trans (turnAway k t tag)) _ (refl s)
  · exact refl s

end OnlyBids

theorem presentTarget_track (r : TrackRecord) (s : State) : (presentTarget presentQuietly r s).track = s.track := by
  unfold presentTarget
  split
  · exact reconsider_track _ s
  · rfl

/-- Under air wait a presentation starts no grant (R80). -/
theorem present_of_airWait (h : s.air.airWait = true) (k : OutletId) : present k s = presentQuietly k s := by
  have hwait : grantAllowed (reconsider k s).1 = false := by
    have : (reconsider k s).1.air.airWait = true := (OnlyBids.presentQuietly k s).airWait.trans h
    simp [grantAllowed, this]
  unfold present presentQuietly
  dsimp only
  split
  · exact examine_of_not_allowed hwait
  · rfl

theorem presentTarget_of_airWait (h : s.air.airWait = true) (r : TrackRecord) :
    presentTarget present r s = presentTarget presentQuietly r s := by
  unfold presentTarget
  split
  · exact present_of_airWait h _
  · rfl

/-! ## Records turned away without a grant (R47) -/

theorem lossOfAcceptance_of_airWait (h : s.air.airWait = true) (k : OutletId) :
    lossOfAcceptance present k s = lossOfAcceptance presentQuietly k s := by
  have hturn : ∀ {t : State}, t.air.airWait = true →
      ∀ tag, turnAway present k t tag = turnAway presentQuietly k t tag := by
    intro t ht tag
    unfold turnAway
    split
    · rfl
    · split
      · exact presentTarget_of_airWait (((OnlyBids.withdraw k tag t).trans (.updateRecord _ _ _)).airWait.trans ht) _
      · rfl
  unfold lossOfAcceptance
  generalize (s.track.records.filter _).map _ = tags
  induction tags generalizing s with
  | nil => rfl
  | cons tag tags ih =>
    rw [List.foldl_cons, List.foldl_cons, hturn h, ih ((OnlyBids.turnAway k s tag).airWait.trans h)]

/-- A record after a loss of acceptance by outlet `k`: one that bids there takes fallback (R47). -/
def turnedAway (k : OutletId) (s : State) (r : TrackRecord) : TrackRecord :=
  if r.state = .requesting ∧ r.target = some k then fallbackRecord r s else r

theorem turnAway_records {k : OutletId} {r : TrackRecord} {front back : List TrackRecord} (hb : r.bidsAt k)
    (hs : s.track.records = front ++ r :: back) (hf : ∀ x ∈ front, x.tag ≠ r.tag) :
    (turnAway presentQuietly k s r.tag).track.records = front ++ fallbackRecord r s :: back := by
  have hs' : (withdraw k r.tag s).track.records = front ++ r :: back := by rw [withdraw_track, hs]
  unfold turnAway
  rw [recordOf_append hs hf]
  dsimp only
  rw [if_pos (show r.state = .requesting ∧ r.target = some k from hb), presentTarget_track,
    updateRecord_split _ hs' hf]
  simp [State.withRecords]

/-- The bids are turned away from head to tail, each as it stood. -/
theorem turnAways_records {k : OutletId} {front back : List TrackRecord} (hst : OnlyBids s t)
    (ht : t.track.records = front ++ back) (hb : BidsFirst (front ++ back)) :
    (((back.filter fun r => r.state == .requesting && r.target == some k).map (·.tag)).foldl
      (turnAway presentQuietly k) t).track.records = front ++ back.map (turnedAway k s) := by
  induction back generalizing front t with
  | nil => simpa using ht
  | cons r back ih =>
    by_cases hr : r.bidsAt k
    · have hf : ∀ x ∈ front, x.tag ≠ r.tag := fun x hx => (List.pairwise_append.1 hb).2.2 x hx r (by simp) hr.1
      have hturned : turnedAway k s r = fallbackRecord r s := if_pos hr
      rw [List.filter_cons_of_pos (by simpa [TrackRecord.bidsAt] using hr), List.map_cons, List.foldl_cons,
        ih (front := front ++ [turnedAway k s r]) (hst.trans (.turnAway k t r.tag))]
      · simp
      · rw [turnAway_records hr ht hf, hst.fallbackRecord, hturned]
        simp
      · rw [hturned]
        simpa using hb.replace hf (fallbackRecord_tag r s)
    · have hturned : turnedAway k s r = r := if_neg hr
      rw [List.filter_cons_of_neg (by simpa [TrackRecord.bidsAt] using hr),
        ih (front := front ++ [turnedAway k s r]) hst]
      · simp
      · simpa [hturned] using ht
      · simpa [hturned] using hb

/-- Under air wait a loss of acceptance changes exactly the records that bid at its outlet. -/
theorem lossOfAcceptance_records (hw : s.air.airWait = true) (hf : BidsFound s) (k : OutletId) :
    (lossOfAcceptance present k s).track.records = s.track.records.map (turnedAway k s) := by
  rw [lossOfAcceptance_of_airWait hw]
  exact turnAways_records (front := []) (.refl s) rfl ((bidsFound_iff s).1 hf)

end Sys2Proof.Machine
end

section
/-! SUPPORT. The turning away of every bid at an outlet that is not accepting: no diversion brings a bid back to it,
whatever grants and other losses follow (R47, R48). -/

namespace Sys2Proof.Machine

open Sys2Proof

variable {s t : State} {k : OutletId} {tags : List SequenceTag}

/-- Outlet `k` is not accepting, and every bid at it has one of the tags. -/
structure Turning (k : OutletId) (tags : List SequenceTag) (s : State) : Prop where
  found : BidsFound s
  shut : accepting k s = false
  left : ∀ r ∈ s.track.records, r.bidsAt k → r.tag ∈ tags

namespace Turning

theorem noneBidding (h : Turning k [] s) : NoneBidding k s := fun r hr hk => by simpa using h.left r hr hk

/-- Fewer tags are left once no bid of the others stands. -/
theorem narrow {tags' : List SequenceTag} (h : Turning k tags s)
    (ht : ∀ r ∈ s.track.records, r.bidsAt k → r.tag ∈ tags') : Turning k tags' s :=
  ⟨h.found, h.shut, ht⟩

theorem congr (h : Turning k tags s) (hr : t.track.records = s.track.records)
    (ha : accepting k s = false → accepting k t = false) : Turning k tags t where
  found := by simpa only [BidsFound, hr] using h.found
  shut := ha h.shut
  left := by simpa only [hr] using h.left

/-- A change of the request set. -/
theorem requests (h : Turning k tags s) (ht : OnlyBids s t) (hr : t.track = s.track) : Turning k tags t :=
  h.congr (by rw [hr]) fun ha => (ht.accepting k).trans ha

/-- No fallback brings a bid to the outlet. -/
theorem fallback_not_bidsAt (h : Turning k tags s) (r : TrackRecord) : ¬ (fallbackRecord r s).bidsAt k := fun hk =>
  absurd ((accepting_of_fallback_bidsAt hk).symm.trans h.shut) (by simp)

/-- The record of a tag takes fallback and is then the record of its tag. -/
theorem fallback {r : TrackRecord} (h : Turning k tags s) (hrec : recordOf r.tag s = some r) (j : OutletId) :
    Turning k tags (updateRecord r.tag (fun _ => fallbackRecord r s) (withdraw j r.tag s)) ∧
      recordOf r.tag (updateRecord r.tag (fun _ => fallbackRecord r s) (withdraw j r.tag s)) =
        some (fallbackRecord r s) := by
  obtain ⟨-, front, back, hs, hf⟩ := recordOf_split hrec
  have hs' : (withdraw j r.tag s).track.records = front ++ r :: back := by rw [withdraw_track, hs]
  have hnew : (updateRecord r.tag (fun _ => fallbackRecord r s) (withdraw j r.tag s)).track.records =
      front ++ fallbackRecord r s :: back := by
    rw [updateRecord_split _ hs' hf]
    simp [State.withRecords]
  have honly : OnlyBids s (updateRecord r.tag (fun _ => fallbackRecord r s) (withdraw j r.tag s)) :=
    (OnlyBids.withdraw j r.tag s).trans (.updateRecord _ _ _)
  refine ⟨⟨?_, (honly.accepting k).trans h.shut, fun x hx hxk => ?_⟩, ?_⟩
  · have hb : BidsFirst (front ++ r :: back) := hs ▸ (bidsFound_iff s).1 h.found
    rw [bidsFound_iff, hnew]
    exact hb.replace hf (fallbackRecord_tag r s)
  · rw [hnew, List.mem_append, List.mem_cons] at hx
    rcases hx with hx | rfl | hx
    · exact h.left x (by simp [hs, hx]) hxk
    · exact absurd hxk (h.fallback_not_bidsAt r)
    · exact h.left x (by simp [hs, hx]) hxk
  · simpa using recordOf_append (r := fallbackRecord r s) (by simpa using hnew) (by simpa using hf)

theorem sublist (h : Turning k tags s) (hr : t.track.records.Sublist s.track.records)
    (ha : accepting k s = false → accepting k t = false) : Turning k tags t where
  found := (bidsFound_iff _).2 (((bidsFound_iff s).1 h.found).sublist hr)
  shut := ha h.shut
  left x hx := h.left x (hr.subset hx)

end Turning

/-- A way of presenting that brings no bid to an outlet that is not accepting. -/
def BringsNoBid (pres : OutletId → State → State) : Prop :=
  ∀ ⦃k : OutletId⦄ ⦃tags : List SequenceTag⦄ ⦃s : State⦄ (j : OutletId),
    Turning k tags s → Turning k tags (pres j s)

theorem bringsNoBid_presentQuietly : BringsNoBid presentQuietly := fun _ _ s j h =>
  h.requests (.presentQuietly j s) (reconsider_track j s)

namespace BringsNoBid

variable {pres : OutletId → State → State} (hp : BringsNoBid pres)
include hp

theorem presentTarget (h : Turning k tags s) (r : TrackRecord) : Turning k tags (presentTarget pres r s) := by
  unfold Machine.presentTarget
  split
  · exact hp _ h
  · exact h

/-- A record turned away from any outlet. -/
theorem turnAway (h : Turning k tags s) (j : OutletId) (tag : SequenceTag) :
    Turning k tags (turnAway pres j s tag) := by
  unfold Machine.turnAway
  split
  · exact h
  · next r hrec =>
    obtain rfl := (recordOf_split hrec).1
    split
    · exact hp.presentTarget (h.fallback hrec j).1 _
    · exact h

theorem reportLoss (h : Turning k tags s) (j : OutletId) (before : Bool) :
    Turning k tags (reportLoss pres j before s) := by
  unfold Machine.reportLoss
  split
  · exact foldl_keeps (P := Turning k tags) (fun _ tag h => hp.turnAway h j tag) _ h
  · exact h

/-- A record turned away from the outlet itself is one fewer left. -/
theorem turnAway_self {tag : SequenceTag} (h : Turning k (tag :: tags) s) :
    Turning k tags (Machine.turnAway pres k s tag) := by
  have hleft : ∀ x ∈ s.track.records, x.bidsAt k → x.tag ≠ tag → x.tag ∈ tags := fun x hx hxk ht => by
    simpa [ht] using h.left x hx hxk
  unfold Machine.turnAway
  split
  · next hrec =>
    refine h.narrow fun x hx hxk => hleft x hx hxk ?_
    rintro rfl
    simp [recordOf_of_requesting h.found hx hxk.1] at hrec
  · next r hrec =>
    obtain rfl := (recordOf_split hrec).1
    split
    · obtain ⟨hturned, hnew⟩ := h.fallback hrec k
      refine hp.presentTarget (hturned.narrow fun x hx hxk => ?_) _
      have hne : x.tag ≠ r.tag := fun e => by
        have hx' := recordOf_of_requesting hturned.found hx hxk.1
        rw [e, hnew] at hx'
        exact h.fallback_not_bidsAt r (Option.some.inj hx' ▸ hxk)
      simpa [hne] using hturned.left x hx hxk
    · next hrk =>
      refine h.narrow fun x hx hxk => hleft x hx hxk fun ht => hrk ?_
      have := recordOf_of_requesting h.found hx hxk.1
      rw [ht, hrec] at this
      cases this
      exact hxk

theorem turnAways (h : Turning k tags s) : Turning k [] (tags.foldl (Machine.turnAway pres k) s) := by
  induction tags generalizing s with
  | nil => exact h
  | cons tag tags ih => exact ih (hp.turnAway_self h)

/-- A loss of acceptance turns every bid away. -/
theorem lossOfAcceptance (hf : BidsFound s) (ha : accepting k s = false) :
    NoneBidding k (lossOfAcceptance pres k s) := by
  have h : Turning k (bidTags k s) s := ⟨hf, ha, fun _ => mem_bidTags⟩
  exact (hp.turnAways h).noneBidding

end BringsNoBid

/-! ## Grants and presentations -/

/-- A longer confirm queue makes no outlet accepting. -/
theorem not_accepting_append (ha : accepting k s = false) (j : OutletId) (e : ConfirmEntry) :
    accepting k (s.onOutlet j fun o => { o with queue := o.queue ++ [e] }) = false := by
  by_cases hkj : k = j
  · subst hkj
    rw [accepting_onOutlet_self, Bool.eq_false_iff]
    rw [accepting, Bool.eq_false_iff] at ha
    exact fun ha' => ha (acceptingWith_mono (by rfl) (by rfl) (by rfl) (by simp) ha')
  · rw [accepting_onOutlet_ne hkj, ha]

theorem Turning.grant (h : Turning k tags s) (j : OutletId) : Turning k tags (grant j s) := by
  unfold Machine.grant
  split
  · exact h
  · split
    · exact h.requests (.setRequest j none s) rfl
    · dsimp only
      refine congr (bringsNoBid_presentQuietly.reportLoss (h.sublist ?_ fun ha => ?_) j _) rfl id
      · exact List.eraseP_sublist
      · exact not_accepting_append ha j _

theorem bringsNoBid_present : BringsNoBid present := by
  have hone : ∀ {k : OutletId} {tags : List SequenceTag} {s : State},
      Turning k tags s → Turning k tags (grantOne s) := by
    intro k tags s h
    unfold grantOne
    split
    · split
      · exact h
      · exact h.grant _
    · exact h
  intro k tags s j h
  have hr := bringsNoBid_presentQuietly j h
  unfold present
  dsimp only
  split
  · exact hone (hone hr)
  · exact hr

/-! ## What the requests and a fallback become -/

/-- A loss of acceptance leaves the requests those of the track. -/
theorem lossOfAcceptance_requestsSound (ha : accepting k s = false) (hs : RequestsSound s) :
    RequestsSound (lossOfAcceptance present k s) := by
  have hb : BidsKept False s := (bidsKept_iff_requestsSound s).2 hs
  have hloss : BidsKept False (reportLoss present k true s) :=
    BidsBut.reportLoss settles_present hb rfl (hb.presents k (by simp)) False.elim False.elim
  rw [reportLoss_eq, if_pos ⟨rfl, ha⟩] at hloss
  exact (bidsKept_iff_requestsSound _).1 hloss

section

variable {r : TrackRecord} {j : OutletId}

theorem fallbackRecord_of_unable (h : r.alternate = none ∨ r.fallback = true) :
    fallbackRecord r s = sentToResidue r := by
  unfold fallbackRecord
  split
  · rfl
  · next j hj =>
    have hm : r.fallback = true := h.resolve_left (by simp [hj])
    simp only [hm, Bool.true_or, if_true]

/-! A record with an alternate and its mark clear tries its alternate (R48, R49). -/

theorem fallbackRecord_of_closed (hj : r.alternate = some j)
    (h : s.outlets[j].state = .unconfigured ∨ classify j r s = .passed) : fallbackRecord r s = sentToResidue r := by
  simp only [fallbackRecord, hj, Bool.or_eq_true, beq_iff_eq]
  split
  · rfl
  · next hu => simp only [h.resolve_left (not_or.1 hu).2]

theorem fallbackRecord_of_notYet (hj : r.alternate = some j) (hm : r.fallback = false)
    (hu : s.outlets[j].state ≠ .unconfigured) (hc : classify j r s = .notYet) :
    fallbackRecord r s = { r with target := some j, state := .waiting, fallback := true } := by
  simp only [fallbackRecord, hj, hm, hc, Bool.false_or, beq_iff_eq, if_neg hu]

theorem fallbackRecord_of_inWindow (hj : r.alternate = some j) (hm : r.fallback = false)
    (hu : s.outlets[j].state ≠ .unconfigured) (hc : classify j r s = .inWindow) : fallbackRecord r s =
      if accepting j s then { r with target := some j, state := .requesting, fallback := true }
      else sentToResidue r := by
  simp only [fallbackRecord, hj, hm, hc, Bool.false_or, beq_iff_eq, if_neg hu]

end

end Sys2Proof.Machine

open Sys2Proof Sys2Proof.Machine

/-- Settles O21: each bid is turned away in its turn, and none comes back to an outlet that is not accepting. -/
theorem lossTurnsEveryBidAway : Obligations.LossTurnsEveryBidAway :=
  ⟨fun k s ha hf => ⟨bringsNoBid_present.lossOfAcceptance hf ha,
    lossOfAcceptance_diversion present_diversion k s,
    fun hw => lossOfAcceptance_records hw hf k, lossOfAcceptance_requestsSound ha⟩,
    fun _ _ h => fallbackRecord_of_unable h, fun _ _ _ hj hm => ⟨fun h => fallbackRecord_of_closed hj h,
    fun hu hc => fallbackRecord_of_notYet hj hm hu hc, fun hu hc => fallbackRecord_of_inWindow hj hm hu hc⟩⟩
end

section
/-! SUPPORT. What a grant does before it reports a loss of acceptance, and that it reports one only by the fourth entry of
the queue (R47, R83, R97). -/

namespace Sys2Proof.Machine

open Sys2Proof

variable {s t : State} {k : OutletId} {r : TrackRecord} {l front back : List TrackRecord}

/-- The state with the request of outlet `k` removed, its diverter energised for the item of record `r`, the item in its
confirm queue, and the records `l` on the track. -/
def State.handedOver (k : OutletId) (r : TrackRecord) (l : List TrackRecord) (s : State) : State :=
  let p := pulseOf (halfFootprint r.footprint) s.sensing.speed s.timing[k].extension s.timing[k].minPulse
    s.timing[k].maxPulse
  { s with
    timing := s.timing.set k { s.timing[k] with lastPulse := p }
    track := { s.track with records := l }
    air :=
      { s.air with
        requests := s.air.requests.set k none
        pulses := s.air.pulses.set k (some { tag := r.tag, pulseEnd := s.now + p.duration }) }
    outlets := s.outlets.set k
      { s.outlets[k] with
        queue := s.outlets[k].queue ++
          [{ tag := r.tag, owner := r.owner, wareClass := r.wareClass, phase := .pulsing }] } }

/-- A grant to outlet `k` counted, with the mark moved under ROTATING. -/
def countGrant (k : OutletId) (a : Air) : Air :=
  { a with
    rotationMark := if a.scheme = .rotating then k else a.rotationMark
    grants := a.grants + 1 }

/-- A grant hands the item over, reports a loss of acceptance, and is counted. -/
theorem grant_eq (hreq : s.air.requests[k] = some r.tag) (hs : s.track.records = front ++ r :: back)
    (hf : ∀ x ∈ front, x.tag ≠ r.tag) :
    grant k s =
      (reportLoss presentQuietly k (accepting k s) (s.handedOver k r (front ++ back))).onAir (countGrant k) := by
  unfold grant
  rw [hreq]
  dsimp only
  rw [recordOf_append hs hf]
  dsimp only
  rw [removeRecord_split (by exact hs) hf, List.append_nil]
  refine congrArg (fun f => (reportLoss presentQuietly k (accepting k s) (s.handedOver k r (front ++ back))).onAir f) ?_
  funext a
  unfold countGrant
  cases a.scheme <;> rfl

/-- The outlet accepts after it took an item if it accepted before and has a place left in its queue. -/
theorem accepting_handedOver : accepting k (s.handedOver k r l) = true ↔
    accepting k s = true ∧ s.outlets[k].queue.length < 3 := by
  have hget : (s.handedOver k r l).outlets[k] =
      { s.outlets[k] with
        queue := s.outlets[k].queue ++
          [{ tag := r.tag, owner := r.owner, wareClass := r.wareClass, phase := .pulsing }] } := by
    simp [State.handedOver]
  have hready : filteredState (.readyLine k) (s.handedOver k r l) = filteredState (.readyLine k) s := rfl
  rw [accepting, hget, hready, acceptingWith_iff, accepting, acceptingWith_iff]
  simp only [List.length_append, List.length_singleton]
  constructor
  · rintro ⟨hs, hm, hq, hh⟩
    exact ⟨⟨hs, hm, by omega, hh⟩, by omega⟩
  · rintro ⟨⟨hs, hm, -, hh⟩, hq⟩
    exact ⟨hs, hm, by omega, hh⟩

/-- No loss is reported when the outlet was not accepting or goes on accepting. -/
theorem reportLoss_handedOver (h : accepting k s = false ∨ s.outlets[k].queue.length ≠ 3) :
    reportLoss presentQuietly k (accepting k s) (s.handedOver k r l) = s.handedOver k r l := by
  cases ha : accepting k s with
  | false => exact reportLoss_unread _ k _
  | true =>
    have hq : s.outlets[k].queue.length ≠ 3 := h.resolve_left (by simp [ha])
    have hlt := queue_lt_of_accepting ha
    have ha' := accepting_handedOver (r := r) (l := l).2 ⟨ha, by omega⟩
    simp [reportLoss, ha']

/-- The fourth entry of an accepting outlet leaves no other bid there. -/
theorem reportLoss_noneBidding (ha : accepting k s = true) (hq : s.outlets[k].queue.length = 3)
    (hb : BidsFirst l) :
    NoneBidding k (reportLoss presentQuietly k (accepting k s) (s.handedOver k r l)) := by
  have hlost : accepting k (s.handedOver k r l) = false := by
    rw [Bool.eq_false_iff]
    exact fun h => absurd (accepting_handedOver.1 h).2 (by omega)
  have hloss : reportLoss presentQuietly k (accepting k s) (s.handedOver k r l) =
      lossOfAcceptance presentQuietly k (s.handedOver k r l) := by
    simp [reportLoss, ha, hlost]
  rw [hloss]
  exact bringsNoBid_presentQuietly.lossOfAcceptance ((bidsFound_iff _).2 hb) hlost

theorem OnlyBids.onAir_countGrant (h : OnlyBids s t) (k : OutletId) :
    OnlyBids (s.onAir (countGrant k)) (t.onAir (countGrant k)) := by
  obtain ⟨_, _, rfl⟩ := h
  exact ⟨_, _, rfl⟩

theorem BidsFirst.remove (h : BidsFirst (front ++ r :: back)) : BidsFirst (front ++ back) :=
  List.Pairwise.sublist (List.Sublist.append_left (List.sublist_cons_self r back) front) h

end Sys2Proof.Machine

open Sys2Proof Sys2Proof.Machine

/-- Settles O20: the item is handed over, and what a loss of acceptance changes then are records and requests alone. -/
theorem grantMovesTheItem : Obligations.GrantMovesTheItem := by
  rintro k _ r front back s hreq hs rfl hf
  dsimp only
  have hgrant := grant_eq hreq hs hf
  have honly : OnlyBids ((s.handedOver k r (front ++ back)).onAir (countGrant k)) (grant k s) :=
    hgrant ▸ (OnlyBids.reportLoss k _ _).onAir_countGrant k
  refine ⟨fun h => ?_, honly.diversion, ?_⟩
  · rw [hgrant, reportLoss_handedOver h]
    rfl
  · refine ⟨?_, ?_, ?_, ?_, ?_, fun ha hq hb => ?_⟩
    case refine_6 =>
      rw [hgrant]
      exact reportLoss_noneBidding ha hq (hs ▸ (bidsFound_iff s).1 hb).remove
    all_goals
      obtain ⟨_, _, hu⟩ := honly
      rw [hu]
      rfl
end

section
/-! SUPPORT. The evaluation of one record by its cases, and what is left of it when no grant follows
(R42 to R46, R80). -/

namespace Sys2Proof.Machine

open Sys2Proof

variable {s t : State} {j k : OutletId} {r : TrackRecord} {front back : List TrackRecord}

/-! ## Presentations (R50, R79) -/

theorem present_of_energised (h : energised k s = true) : present k s = s := by
  simp [present, reconsider, h]

theorem present_of_none (h : energised k s = false) (ho : oldestRequesting k s = none) :
    present k s = setRequest k none s := by
  simp [present, reconsider, h, ho]

theorem present_of_presented (h : energised k s = false) (ho : oldestRequesting k s = some r)
    (hr : s.air.requests[k] = some r.tag) : present k s = s := by
  simp only [present, reconsider, h, ho, if_pos hr, Bool.false_eq_true, if_false]

theorem present_of_new (h : energised k s = false) (ho : oldestRequesting k s = some r)
    (hr : s.air.requests[k] ≠ some r.tag) : present k s = examine (setRequest k (some r.tag) s) := by
  simp only [present, reconsider, h, ho, if_neg hr, Bool.false_eq_true, if_false, if_true]

theorem presentTarget_of_bid {pres : OutletId → State → State} (hr : r.state = .requesting)
    (hj : r.target = some j) (s : State) : presentTarget pres r s = pres j s := by
  simp only [presentTarget, hr, hj]

theorem presentTarget_of_no_bid {pres : OutletId → State → State} (hr : r.state ≠ .requesting) (s : State) :
    presentTarget pres r s = s := by
  unfold presentTarget
  split
  · next h _ => exact absurd h hr
  · rfl

/-! ## One record -/

/-- An evaluation against the window of outlet `k` leaves the record as it is (R43, R44). -/
def TrackRecord.staysAt (k : OutletId) (s : State) (r : TrackRecord) : Prop :=
  r.state = .toResidue ∨ classify k r s = .notYet ∨ (r.state = .requesting ∧ classify k r s = .inWindow)

/-- An evaluation against the window of outlet `k` makes the record bid there (R44). -/
def TrackRecord.bidsNow (k : OutletId) (s : State) (r : TrackRecord) : Prop :=
  r.state = .waiting ∧ classify k r s = .inWindow ∧ accepting k s = true

/-- Every other evaluation finds the window passed, or an outlet that does not accept a record that waits in window. -/
theorem TrackRecord.leaves (hn : ¬ r.staysAt k s) (hb : ¬ r.bidsNow k s) :
    (r.state ≠ .toResidue ∧ classify k r s = .passed) ∨
      (r.state = .waiting ∧ classify k r s = .inWindow ∧ accepting k s = false) := by
  cases hc : classify k r s with
  | passed => exact .inl ⟨fun h => hn (.inl h), rfl⟩
  | notYet => exact absurd (.inr (.inl hc)) hn
  | inWindow =>
    cases hst : r.state with
    | waiting => exact .inr ⟨rfl, rfl, Bool.eq_false_iff.2 fun ha => hb ⟨hst, hc, ha⟩⟩
    | requesting => exact absurd (.inr (.inr ⟨hst, hc⟩)) hn
    | toResidue => exact absurd (.inl hst) hn

/-- The record of a track as an evaluation without a grant leaves it. -/
def evaluatedRecord (r : TrackRecord) (s : State) : TrackRecord :=
  match r.target with
  | none => r
  | some k =>
    match r.state, classify k r s with
    | .toResidue, _ | .waiting, .notYet | .requesting, .notYet | .requesting, .inWindow => r
    | .waiting, .inWindow => if accepting k s then { r with state := .requesting } else fallbackRecord r s
    | .waiting, .passed | .requesting, .passed => fallbackRecord r s

theorem evaluatedRecord_of_untargeted (ht : r.target = none) : evaluatedRecord r s = r := by
  simp only [evaluatedRecord, ht]

theorem evaluatedRecord_of_staysAt (hk : r.target = some k) (h : r.staysAt k s) : evaluatedRecord r s = r := by
  simp only [evaluatedRecord, hk]
  rcases h with h | h | ⟨h, hc⟩
  · simp only [h]
  · cases hst : r.state <;> simp only [h]
  · simp only [h, hc]

theorem evaluatedRecord_of_bidsNow (hk : r.target = some k) (h : r.bidsNow k s) :
    evaluatedRecord r s = { r with state := .requesting } := by
  obtain ⟨hst, hc, ha⟩ := h
  simp only [evaluatedRecord, hk, hst, hc, ha, if_true]

theorem evaluatedRecord_of_fallback (hk : r.target = some k) (hn : ¬ r.staysAt k s) (hb : ¬ r.bidsNow k s) :
    evaluatedRecord r s = fallbackRecord r s := by
  simp only [evaluatedRecord, hk]
  rcases TrackRecord.leaves hn hb with ⟨hres, hc⟩ | ⟨hst, hc, ha⟩
  · cases hst : r.state with
    | toResidue => exact absurd hst hres
    | _ => simp only [hc]
  · simp only [hst, hc, ha, Bool.false_eq_true, if_false]

theorem evaluatedRecord_tag (r : TrackRecord) (s : State) : (evaluatedRecord r s).tag = r.tag := by
  cases hk : r.target with
  | none => rw [evaluatedRecord_of_untargeted hk]
  | some k =>
    by_cases hstay : r.staysAt k s
    · rw [evaluatedRecord_of_staysAt hk hstay]
    · by_cases hbid : r.bidsNow k s
      · rw [evaluatedRecord_of_bidsNow hk hbid]
      · rw [evaluatedRecord_of_fallback hk hstay hbid, fallbackRecord_tag]

theorem OnlyBids.evaluatedRecord (h : OnlyBids s t) (r : TrackRecord) :
    evaluatedRecord r t = evaluatedRecord r s := by
  obtain ⟨_, _, rfl⟩ := h
  rfl

section

variable (hs : s.track.records = front ++ r :: back) (hf : ∀ x ∈ front, x.tag ≠ r.tag)
include hs hf

theorem evaluateRecord_of_untargeted (ht : r.target = none) : evaluateRecord s r.tag = s := by
  simp only [evaluateRecord, recordOf_append hs hf, ht]

theorem evaluateRecord_of_staysAt (hk : r.target = some k) (h : r.staysAt k s) : evaluateRecord s r.tag = s := by
  simp only [evaluateRecord, recordOf_append hs hf, hk]
  rcases h with h | h | ⟨h, hc⟩
  · simp only [h]
  · cases hst : r.state <;> simp only [h]
  · simp only [h, hc]

theorem evaluateRecord_of_bidsNow (hk : r.target = some k) (h : r.bidsNow k s) : evaluateRecord s r.tag =
    present k (s.withRecords (front ++ { r with state := .requesting } :: back)) := by
  obtain ⟨hst, hc, ha⟩ := h
  simp only [evaluateRecord, recordOf_append hs hf, hk, hst, hc, ha, if_true, updateRecord_split _ hs hf,
    List.append_assoc, List.singleton_append]

theorem evaluateRecord_of_fallback (hk : r.target = some k) (hn : ¬ r.staysAt k s) (hb : ¬ r.bidsNow k s) :
    evaluateRecord s r.tag = takeFallback k r s := by
  simp only [evaluateRecord, recordOf_append hs hf, hk]
  rcases TrackRecord.leaves hn hb with ⟨hres, hc⟩ | ⟨hst, hc, ha⟩
  · cases hst : r.state with
    | toResidue => exact absurd hst hres
    | _ => simp only [hc]
  · simp only [hst, hc, ha, Bool.false_eq_true, if_false]

end

/-- The state with the request of outlet `k` for record `r` withdrawn and the records `l` on the track. -/
def State.withdrawnFor (k : OutletId) (r : TrackRecord) (l : List TrackRecord) (s : State) : State :=
  (s.withRecords l).onAir fun a =>
    { a with requests := if a.requests[k] = some r.tag then a.requests.set k none else a.requests }

theorem OnlyBids.withdrawnFor (k : OutletId) (r : TrackRecord) (l : List TrackRecord) (s : State) :
    OnlyBids s (s.withdrawnFor k r l) := ⟨_, _, rfl⟩

theorem withdraw_eq (k : OutletId) (tag : SequenceTag) (s : State) : withdraw k tag s = s.onAir fun a =>
    { a with requests := if a.requests[k] = some tag then a.requests.set k none else a.requests } := by
  unfold withdraw State.onAir
  dsimp only
  split <;> rfl

/-- A fallback withdraws the record's request, and the outlet it leaves and the one it reaches present (R49 to R51). -/
theorem takeFallback_eq (hs : s.track.records = front ++ r :: back) (hf : ∀ x ∈ front, x.tag ≠ r.tag) :
    takeFallback k r s =
      presentTarget present (fallbackRecord r s)
        (if r.state = .requesting then present k (s.withdrawnFor k r (front ++ fallbackRecord r s :: back))
        else s.withdrawnFor k r (front ++ fallbackRecord r s :: back)) := by
  have hs' : (withdraw k r.tag s).track.records = front ++ r :: back := by rw [withdraw_track, hs]
  have hleft : updateRecord r.tag (fun _ => fallbackRecord r s) (withdraw k r.tag s) =
      s.withdrawnFor k r (front ++ fallbackRecord r s :: back) := by
    rw [updateRecord_split _ hs' hf, List.append_assoc, List.singleton_append, withdraw_eq]
    rfl
  rw [← hleft]
  rfl

/-! ## Evaluations without a grant -/

theorem present_only (hw : s.air.airWait = true) (k : OutletId) :
    OnlyBids s (present k s) ∧ (present k s).track = s.track := by
  rw [present_of_airWait hw]
  exact ⟨.presentQuietly k s, reconsider_track k s⟩

theorem takeFallback_only (hw : s.air.airWait = true) (hs : s.track.records = front ++ r :: back)
    (hf : ∀ x ∈ front, x.tag ≠ r.tag) : OnlyBids s (takeFallback k r s) ∧
      (takeFallback k r s).track.records = front ++ fallbackRecord r s :: back := by
  rw [takeFallback_eq hs hf]
  have hleft : ∀ w, OnlyBids s w → w.track.records = front ++ fallbackRecord r s :: back →
      OnlyBids s (presentTarget present (fallbackRecord r s) w) ∧
        (presentTarget present (fallbackRecord r s) w).track.records = front ++ fallbackRecord r s :: back := by
    intro w honly hrec
    rw [presentTarget_of_airWait (honly.airWait.trans hw), presentTarget_track]
    exact ⟨honly.trans (.presentTarget _ w), hrec⟩
  have honly := OnlyBids.withdrawnFor k r (front ++ fallbackRecord r s :: back) s
  split
  · obtain ⟨hp, htrack⟩ := present_only (honly.airWait.trans hw) k
    exact hleft _ (honly.trans hp) (by rw [htrack]; rfl)
  · exact hleft _ honly rfl

/-- Under air wait an evaluation changes the one record and the request set (R42, R80). -/
theorem evaluateRecord_only (hw : s.air.airWait = true) (hs : s.track.records = front ++ r :: back)
    (hf : ∀ x ∈ front, x.tag ≠ r.tag) : OnlyBids s (evaluateRecord s r.tag) ∧
      (evaluateRecord s r.tag).track.records = front ++ evaluatedRecord r s :: back := by
  cases hk : r.target with
  | none =>
    rw [evaluateRecord_of_untargeted hs hf hk, evaluatedRecord_of_untargeted hk]
    exact ⟨.refl s, hs⟩
  | some k =>
    by_cases hstay : r.staysAt k s
    · rw [evaluateRecord_of_staysAt hs hf hk hstay, evaluatedRecord_of_staysAt hk hstay]
      exact ⟨.refl s, hs⟩
    · by_cases hbid : r.bidsNow k s
      · rw [evaluateRecord_of_bidsNow hs hf hk hbid, evaluatedRecord_of_bidsNow hk hbid]
        have honly := OnlyBids.withRecords (front ++ { r with state := .requesting } :: back) s
        obtain ⟨hp, htrack⟩ := present_only (honly.airWait.trans hw) k
        exact ⟨honly.trans hp, by rw [htrack]; rfl⟩
      · rw [evaluateRecord_of_fallback hs hf hk hstay hbid, evaluatedRecord_of_fallback hk hstay hbid]
        exact takeFallback_only hw hs hf

theorem evaluateRecord_requestsSound (h : RequestsSound s) (tag : SequenceTag) :
    RequestsSound (evaluateRecord s tag) :=
  (bidsKept_iff_requestsSound _).1 (((bidsKept_iff_requestsSound s).2 h).evaluateRecord tag)

/-- The records are evaluated from head to tail, each as it stood. -/
theorem evaluateRecords_records (hw : s.air.airWait = true) (hst : OnlyBids s t)
    (ht : t.track.records = front ++ back) (hn : ((front ++ back).map (·.tag)).Nodup) :
    ((back.map (·.tag)).foldl evaluateRecord t).track.records = front ++ back.map (evaluatedRecord · s) := by
  induction back generalizing front t with
  | nil => simpa using ht
  | cons r back ih =>
    have hf : ∀ x ∈ front, x.tag ≠ r.tag := by
      rw [List.map_append, List.nodup_append] at hn
      exact fun x hx => hn.2.2 x.tag (List.mem_map_of_mem hx) r.tag (by simp)
    obtain ⟨honly, hrec⟩ := evaluateRecord_only (hst.airWait.trans hw) ht hf
    rw [hst.evaluatedRecord] at hrec
    rw [List.map_cons, List.foldl_cons, ih (front := front ++ [evaluatedRecord r s]) (hst.trans honly)]
    · simp
    · simpa using hrec
    · simpa [evaluatedRecord_tag] using hn

end Sys2Proof.Machine

open Sys2Proof Sys2Proof.Machine

/-- Settles O22: the cases of one evaluation and of a presentation, and the pass as the evaluations of its records. -/
theorem windowEvaluationActs : Obligations.WindowEvaluationActs := by
  refine ⟨fun r front back s hs hf => ?_, fun k s => ?_, fun s => ⟨rfl, fun hw hn => ?_⟩⟩
  · refine ⟨evaluateRecord_of_untargeted hs hf, fun k hk => ?_, fun hw => ?_, evaluateRecord_diversion s r.tag,
      fun h => evaluateRecord_requestsSound h r.tag⟩
    · refine ⟨evaluateRecord_of_staysAt hs hf hk, evaluateRecord_of_bidsNow hs hf hk, fun hstay hbid => ?_⟩
      have heval := (evaluateRecord_of_fallback hs hf hk hstay hbid).trans (takeFallback_eq hs hf)
      exact ⟨fun j hr hj => heval.trans (presentTarget_of_bid hr hj _),
        fun hr => heval.trans (presentTarget_of_no_bid hr _)⟩
    · obtain ⟨honly, hrec⟩ := evaluateRecord_only hw hs hf
      exact ⟨hrec, honly.pulses⟩
  · exact ⟨present_of_energised, present_of_none,
      fun he r ho => ⟨present_of_presented he ho, present_of_new he ho⟩⟩
  · exact evaluateRecords_records (front := []) hw (.refl s) rfl hn
end

section
/-! SUPPORT. The settings of the part: the placements, the geometry, the owners, the routes and the governor's codes.
Every command but power-on and the four requests that write them leaves them as they are (R60, R62, R73, R117, R169). -/

namespace Sys2Proof.Machine

open Sys2Proof

variable {s t u : State}

/-! ## The settings -/

/-- An outlet's timing parameters, its lead and its last pulse record put aside (R60). -/
def OutletTiming.parameters (t : OutletTiming) : OutletTiming :=
  { t with lead := 0, lastPulse := OutletTiming.powerOn.lastPulse }

/-- What the requests SET GEOMETRY, SET SPEED CODES, SET OUTLET PLACE and SET ROUTE write. -/
structure Settings where
  parameters : Vector OutletTiming 12
  owners     : Vector StationId 12
  geometry   : Geometry
  routes     : Vector RouteRow 7
  runCode    : Nat
  slowCode   : Nat
  slowMark   : Nat

/-- The settings of a state. -/
def settings (s : State) : Settings where
  parameters := s.timing.map OutletTiming.parameters
  owners := s.outlets.map Outlet.owner
  geometry := s.geometry
  routes := s.routes
  runCode := s.line.runCode
  slowCode := s.line.slowCode
  slowMark := s.line.slowMark

/-- States with the same settings agree in each of them. -/
theorem settings_eq_iff : settings t = settings s ↔
    (∀ k : OutletId, t.timing[k].parameters = s.timing[k].parameters) ∧
    (∀ k : OutletId, t.outlets[k].owner = s.outlets[k].owner) ∧ t.geometry = s.geometry ∧ t.routes = s.routes ∧
    t.line.runCode = s.line.runCode ∧ t.line.slowCode = s.line.slowCode ∧ t.line.slowMark = s.line.slowMark := by
  have hvec : ∀ {α β : Type} (f : α → β) (v w : Vector α 12),
      v.map f = w.map f ↔ ∀ k : OutletId, f v[k] = f w[k] := by
    intro α β f v w
    constructor
    · intro h k
      simpa using congrArg (fun x : Vector β 12 => x[k]) h
    · intro h
      apply Vector.ext
      intro i hi
      simpa using h ⟨i, hi⟩
  simp only [settings, Settings.mk.injEq, hvec]

/-! ## Changes of one block -/

section

variable (s : State)

@[simp] theorem settings_onNow (f : Nat → Nat) : settings (s.onNow f) = settings s := rfl
@[simp] theorem settings_onSensing (f : Sensing → Sensing) : settings (s.onSensing f) = settings s := rfl
@[simp] theorem settings_onAdmission (f : Admission → Admission) : settings (s.onAdmission f) = settings s := rfl
@[simp] theorem settings_onTrack (f : Track → Track) : settings (s.onTrack f) = settings s := rfl
@[simp] theorem settings_onAir (f : Air → Air) : settings (s.onAir f) = settings s := rfl
@[simp] theorem settings_onChannels (f : Vector Channel 14 → Vector Channel 14) :
    settings (s.onChannels f) = settings s := rfl
@[simp] theorem settings_onChannel (c : ChannelId) (f : Channel → Channel) :
    settings (s.onChannel c f) = settings s := rfl
@[simp] theorem settings_onBalance (c : Fin 6) (f : Balance → Balance) : settings (s.onBalance c f) = settings s := rfl
@[simp] theorem settings_onLink (f : Link → Link) : settings (s.onLink f) = settings s := rfl
@[simp] theorem settings_onStation (a : StationId) (f : StationLink → StationLink) :
    settings (s.onStation a f) = settings s := rfl
@[simp] theorem settings_onDraws (f : Nat → Nat) : settings (s.onDraws f) = settings s := rfl

@[simp] theorem settings_onLine (f : Line → Line) (hr : (f s.line).runCode = s.line.runCode)
    (hs : (f s.line).slowCode = s.line.slowCode) (hm : (f s.line).slowMark = s.line.slowMark) :
    settings (s.onLine f) = settings s :=
  settings_eq_iff.2 ⟨fun _ => rfl, fun _ => rfl, rfl, rfl, hr, hs, hm⟩

@[simp] theorem settings_onTimings (f : Vector OutletTiming 12 → Vector OutletTiming 12)
    (hf : ∀ k : OutletId, (f s.timing)[k].parameters = s.timing[k].parameters) :
    settings (s.onTimings f) = settings s :=
  settings_eq_iff.2 ⟨hf, fun _ => rfl, rfl, rfl, rfl, rfl, rfl⟩

@[simp] theorem settings_onOutlets (f : Vector Outlet 12 → Vector Outlet 12)
    (hf : ∀ k : OutletId, (f s.outlets)[k].owner = s.outlets[k].owner) : settings (s.onOutlets f) = settings s :=
  settings_eq_iff.2 ⟨fun _ => rfl, hf, rfl, rfl, rfl, rfl, rfl⟩

@[simp] theorem settings_onOutlet (k : OutletId) (f : Outlet → Outlet)
    (hf : (f s.outlets[k]).owner = s.outlets[k].owner) : settings (s.onOutlet k f) = settings s := by
  refine settings_eq_iff.2 ⟨fun _ => rfl, fun j => ?_, rfl, rfl, rfl, rfl, rfl⟩
  rw [State.onOutlet_get]
  split
  · next hj => subst hj; exact hf
  · rfl

end

/-! ## Notices, responses and the line -/

/-- A fold of operations that leave the settings leaves them. -/
theorem settings_foldl {α : Type} {f : State → α → State} (hf : ∀ s a, settings (f s a) = settings s) (l : List α)
    (s : State) : settings (l.foldl f s) = settings s :=
  foldl_keeps (P := fun t => settings t = settings s) (fun t a ht => (hf t a).trans ht) l rfl

@[simp] theorem settings_raiseNotice (n : Notice) (s : State) : settings (raiseNotice n s) = settings s := by
  obtain ⟨l, -, h⟩ := raiseNotice_onLink n s
  rw [h]
  rfl

@[simp] theorem settings_respond (q : Request) (status : Status) (results : List Byte) (s : State) :
    settings (respond q status results s) = settings s := rfl

@[simp] theorem settings_driveOutputs (s : State) : settings (driveOutputs s) = settings s := rfl

@[simp] theorem settings_moveLine (new : LineState) (cause : LineCause) (s : State) :
    settings (moveLine new cause s) = settings s := by simp [moveLine]

@[simp] theorem settings_haltLine (cause : LineCause) (s : State) : settings (haltLine cause s) = settings s := by
  unfold haltLine
  split <;> simp

theorem settings_inEitherOrder {first second : State → State} (hf : ∀ s, settings (first s) = settings s)
    (hg : ∀ s, settings (second s) = settings s) (s : State) :
    settings (inEitherOrder first second s) = settings s := by
  unfold inEitherOrder inOrder
  split
  · rw [hf, hg]; rfl
  · rw [hg, hf]; rfl

/-! ## Diversions -/

/-- Diversions write last pulse records and append to confirm queues, and no setting. -/
theorem DiversionFrame.settings (h : DiversionFrame s t) : Machine.settings t = Machine.settings s := by
  refine settings_eq_iff.2 ⟨fun k => ?_, fun k => ?_, h.geometry, h.routes, ?_, ?_, ?_⟩
  · rw [h.timing k]; rfl
  · rw [h.outlets k]
  all_goals rw [h.line]

@[simp] theorem settings_examine (s : State) : settings (examine s) = settings s := (examine_diversion s).settings

@[simp] theorem settings_present (k : OutletId) (s : State) : settings (present k s) = settings s :=
  (present_diversion k s).settings

@[simp] theorem settings_presentQuietly (k : OutletId) (s : State) : settings (presentQuietly k s) = settings s :=
  (presentQuietly_diversion k s).settings

@[simp] theorem settings_withdraw (k : OutletId) (tag : SequenceTag) (s : State) :
    settings (withdraw k tag s) = settings s := (withdraw_diversion k tag s).settings

@[simp] theorem settings_reportLoss (k : OutletId) (before : Bool) (s : State) :
    settings (reportLoss present k before s) = settings s :=
  (reportLoss_diversion present_diversion k before s).settings

@[simp] theorem settings_evaluateRecord (s : State) (tag : SequenceTag) :
    settings (evaluateRecord s tag) = settings s := (evaluateRecord_diversion s tag).settings

@[simp] theorem settings_evaluateTrack (s : State) : settings (evaluateTrack s) = settings s :=
  (evaluateTrack_diversion s).settings

/-! ## Pulse ends, cuts and the end of an event -/

@[simp] theorem settings_awaitConfirm (k : OutletId) (tag : SequenceTag) (s : State) :
    settings (awaitConfirm k tag s) = settings s := by simp [awaitConfirm]

@[simp] theorem settings_endPulse (k : OutletId) (tag : SequenceTag) (s : State) :
    settings (endPulse k tag s) = settings s := by simp [endPulse, deEnergise]

@[simp] theorem settings_cutPulses (s : State) : settings (cutPulses s) = settings s := by
  refine settings_foldl (fun s k => ?_) _ s
  unfold cutPulse
  split <;> simp [deEnergise]

@[simp] theorem settings_settleLine (s : State) : settings (settleLine s) = settings s := by
  unfold settleLine testDrain
  split <;> simp

@[simp] theorem settings_discardItems (s : State) : settings (discardItems s) = settings s := by
  unfold discardItems
  rw [settings_onAir, settings_onAdmission, settings_onOutlets _ _ fun k => by simp, settings_onTrack]

@[simp] theorem settings_initializeBlocks (s : State) : settings (initializeBlocks s) = settings s := by
  unfold initializeBlocks
  rw [settings_onLink, settings_onChannels, settings_onOutlets _ _ fun k => by simp, settings_onAir,
    settings_onTimings _ _ fun k => by simp [OutletTiming.parameters], settings_onAdmission, settings_onSensing]

/-! ## Admission and retirement -/

@[simp] theorem settings_handOnOverflow (i : Nat) (n : DeviceCount) (s : State) :
    settings (handOnOverflow i n s) = settings s := by
  unfold handOnOverflow overflowOccurrence
  split
  · split <;> simp
  · rfl

@[simp] theorem settings_changeAccount (c f : Fin 6) (g : Accumulator → Accumulator) (s : State) :
    settings (changeAccount c f g s) = settings s := by
  unfold changeAccount noticeBalance writeAccount
  dsimp only
  split <;> simp

@[simp] theorem settings_returnItem (owner : StationId) (wareClass : WareClass) (s : State) :
    settings (returnItem owner wareClass s) = settings s := by
  unfold returnItem
  split <;> simp

@[simp] theorem settings_admitItem (leading : Position) (footprint : Nat) (identity : Identity) (s : State) :
    settings (admitItem leading footprint identity s) = settings s := by simp [admitItem]

@[simp] theorem settings_admitEntry (e : PendingEntry) (s : State) : settings (admitEntry e s) = settings s := by
  unfold admitEntry
  dsimp only
  split <;> split <;> simp

@[simp] theorem settings_letGo (e : PendingEntry) (rest : List PendingEntry) (s : State) :
    settings (letGo e rest s) = settings s := by
  unfold letGo removeEntry
  dsimp only
  split <;> simp

@[simp] theorem settings_examineHeads (n : Nat) (s : State) : settings (examineHeads n s) = settings s := by
  induction n generalizing s with
  | zero => rfl
  | succ n ih =>
    unfold examineHeads
    split
    · rfl
    · split
      · rw [ih, settings_letGo]
      · rfl

@[simp] theorem settings_examineHead (s : State) : settings (examineHead s) = settings s := by
  unfold examineHead
  split <;> simp

theorem settings_discardHeads (n : Nat) (s : State) : settings (discardHeads n s) = settings s := by
  induction n generalizing s with
  | zero => rfl
  | succ n ih =>
    unfold discardHeads
    split
    · rfl
    · split
      · exact ih _
      · rfl

theorem settings_admissionAdvance (s : State) : settings (admissionAdvance s) = settings s := by
  unfold admissionAdvance
  split
  · exact settings_examineHeads _ s
  · exact settings_examineHeads _ s
  · exact settings_discardHeads _ s
  · rfl

theorem settings_retireHead (r : TrackRecord) (rest : List TrackRecord) (s : State) :
    settings (retireHead r rest s) = settings s := by
  unfold retireHead
  dsimp only
  split <;> simp

theorem settings_retireHeads (n : Nat) (s : State) : settings (retireHeads n s) = settings s := by
  induction n generalizing s with
  | zero => rfl
  | succ n ih =>
    unfold retireHeads
    split
    · rfl
    · split
      · rw [ih, settings_retireHead]
      · rfl

theorem settings_trackAdvance (s : State) : settings (trackAdvance s) = settings s :=
  (settings_retireHeads _ _).trans (settings_evaluateTrack s)

/-! ## Outlets -/

@[simp] theorem settings_enterFull (k : OutletId) (before : Bool) (s : State) :
    settings (enterFull k before s) = settings s := by simp [enterFull]

@[simp] theorem settings_enterJam (k : OutletId) (before : Bool) (s : State) :
    settings (enterJam k before s) = settings s := by simp [enterJam]

@[simp] theorem settings_takePlace (k : OutletId) (before : Bool) (s : State) :
    settings (takePlace k before s) = settings s := by
  unfold takePlace
  dsimp only
  split <;> simp

@[simp] theorem settings_crateEffect (k : OutletId) (before : Bool) (s : State) :
    settings (crateEffect k before s) = settings s := by
  unfold crateEffect
  dsimp only
  split
  · simp
  · split <;> simp

@[simp] theorem settings_strayEvent (k : OutletId) (before : Bool) (s : State) :
    settings (strayEvent k before s) = settings s := by
  unfold strayEvent
  dsimp only
  split <;> simp

@[simp] theorem settings_confirmationEvent (k : OutletId) (before : Bool) (s : State) :
    settings (confirmationEvent k before s) = settings s := by
  unfold confirmationEvent removeSorted
  dsimp only
  split
  · rfl
  · split
    · simp
    · split <;> simp

@[simp] theorem settings_timeoutHead (k : OutletId) (s : State) : settings (timeoutHead k s) = settings s := by
  unfold timeoutHead
  dsimp only
  split <;> simp

@[simp] theorem settings_freshCrate (k : OutletId) (s : State) : settings (freshCrate k s) = settings s := by
  unfold freshCrate openOrJam
  split <;> simp

@[simp] theorem settings_removeCrate (k : OutletId) (s : State) : settings (removeCrate k s) = settings s := by
  unfold removeCrate
  dsimp only
  split <;> simp

@[simp] theorem settings_placeCrate (k : OutletId) (s : State) : settings (placeCrate k s) = settings s := by
  unfold placeCrate
  dsimp only
  split
  · split <;> simp
  · rfl

@[simp] theorem settings_enterByMode (k : OutletId) (s : State) : settings (enterByMode k s) = settings s := by
  unfold enterByMode enterByCrate
  split
  · split
    · split <;> simp
    · simp
  · simp

@[simp] theorem settings_enterPlaced (k : OutletId) (before : OutletState) (modeBefore : OutletMode) (s : State) :
    settings (enterPlaced k before modeBefore s) = settings s := by
  unfold enterPlaced
  split
  · rfl
  · simp
  all_goals split <;> simp

/-! ## Channels -/

@[simp] theorem settings_copyDetected (c : ChannelId) (detected : Bool) (s : State) :
    settings (copyDetected c detected s) = settings s := by
  unfold copyDetected
  split
  · simp
  · split <;> simp

@[simp] theorem settings_handDetection (c : ChannelId) (s : State) : settings (handDetection c s) = settings s := by
  unfold handDetection
  dsimp only
  split <;> split <;> simp

@[simp] theorem settings_handRelease (c : ChannelId) (s : State) : settings (handRelease c s) = settings s := by
  unfold handRelease
  dsimp only
  split <;> simp

@[simp] theorem settings_noticeChannel (c : ChannelId) (event : ChannelEvent) (s : State) :
    settings (noticeChannel c event s) = settings s := settings_raiseNotice ..

@[simp] theorem settings_detection (c : ChannelId) (s : State) : settings (detection c s) = settings s := by
  unfold detection
  dsimp only
  split <;> simp

@[simp] theorem settings_releaseVerdict (c : ChannelId) (s : State) : settings (releaseVerdict c s) = settings s := by
  unfold releaseVerdict
  dsimp only
  split <;> simp

@[simp] theorem settings_firstVerdict (c : ChannelId) (shown : Bool) (s : State) :
    settings (firstVerdict c shown s) = settings s := by
  unfold firstVerdict
  dsimp only
  split
  · split <;> simp
  · simp
  · split <;> simp

@[simp] theorem settings_sampleFirst (c : ChannelId) (shown : Bool) (s : State) :
    settings (sampleFirst c shown s) = settings s := by
  unfold sampleFirst
  dsimp only
  split <;> simp

@[simp] theorem settings_sampleWatching (c : ChannelId) (shown : Bool) (s : State) :
    settings (sampleWatching c shown s) = settings s := by
  unfold sampleWatching
  dsimp only
  split
  · simp
  · split
    · simp
    · split <;> simp

end Sys2Proof.Machine
end

section
/-! SUPPORT. Every command but power-on, SET GEOMETRY, SET SPEED CODES, SET OUTLET PLACE and SET ROUTE leaves the
settings. -/

namespace Sys2Proof.Machine

open Sys2Proof

variable {s t : State}

/-! ## The encoder and the speed interval -/

theorem settings_forwardStep (s : State) : settings (forwardStep s) = settings s := by
  unfold forwardStep
  split
  · rfl
  · rw [settings_settleLine]
    exact settings_inEitherOrder settings_admissionAdvance settings_trackAdvance (advancePosition s)

theorem settings_reverseStep (s : State) : settings (reverseStep s) = settings s := by
  unfold reverseStep raiseReverse
  dsimp only
  split
  · split <;> simp
  · rfl

theorem settings_recomputeLeads (s : State) : settings (recomputeLeads s) = settings s := by
  refine settings_onTimings s _ fun k => ?_
  simp only [Fin.getElem_fin, Vector.getElem_ofFn]
  split <;> rfl

/-! ## The edges of the gate inputs -/

theorem settings_takeEdge {input : GateInput} {rising : Bool} {e : FilteredEdge}
    (he : takeEdge input rising s = some (e, t)) : settings t = settings s := by
  obtain ⟨-, -, others, -, rfl⟩ := takeEdge_some he
  rfl

theorem settings_takeLeadingEdge (s : State) : settings (takeLeadingEdge s) = settings s := by
  unfold takeLeadingEdge
  split
  · rfl
  · next he =>
    rw [← settings_takeEdge he]
    unfold leadingEdge openEntry
    dsimp only
    split <;> simp

theorem settings_takeTrailingEdge (s : State) : settings (takeTrailingEdge s) = settings s := by
  unfold takeTrailingEdge
  split
  · rfl
  · next he =>
    rw [← settings_takeEdge he]
    unfold trailingEdge
    dsimp only
    split <;> simp

theorem settings_takeChuteRising (k : OutletId) (s : State) : settings (takeChuteRising k s) = settings s := by
  unfold takeChuteRising
  split
  · rfl
  · next he =>
    rw [← settings_takeEdge he]
    split <;> simp

theorem settings_takeReadyRising (k : OutletId) (s : State) : settings (takeReadyRising k s) = settings s := by
  unfold takeReadyRising
  split
  · rfl
  · next he => exact settings_takeEdge he

theorem settings_takeReadyFalling (k : OutletId) (s : State) : settings (takeReadyFalling k s) = settings s := by
  unfold takeReadyFalling fallReady
  split
  · rfl
  · next he =>
    rw [← settings_takeEdge he]
    split <;> simp

theorem settings_takeCrateFalling (k : OutletId) (s : State) : settings (takeCrateFalling k s) = settings s := by
  unfold takeCrateFalling
  split
  · rfl
  · next he => exact (settings_removeCrate ..).trans (settings_takeEdge he)

theorem settings_takeCrateRising (k : OutletId) (s : State) : settings (takeCrateRising k s) = settings s := by
  unfold takeCrateRising
  split
  · rfl
  · next he => exact (settings_placeCrate ..).trans (settings_takeEdge he)

theorem settings_handOldest (s : State) : settings (handOldest s) = settings s := by
  unfold handOldest
  split
  · rfl
  · split
    · exact settings_takeLeadingEdge s
    · exact settings_takeTrailingEdge s
    · exact settings_takeChuteRising _ s
    · rfl
    · exact settings_takeCrateRising _ s
    · exact settings_takeCrateFalling _ s
    · exact settings_takeReadyRising _ s
    · exact settings_takeReadyFalling _ s

theorem settings_handEdges (n : Nat) (s : State) : settings (handEdges n s) = settings s := by
  induction n generalizing s with
  | zero => rfl
  | succ n ih => exact (ih _).trans (settings_handOldest s)

/-! ## The Identity Port -/

theorem settings_matchRecord (capture : CaptureNumber) (identity : Identity) (s : State) :
    settings (matchRecord capture identity s) = settings s := by
  unfold matchRecord attachRecord
  split
  · rfl
  · split
    · rfl
    · dsimp only
      split <;> simp

theorem settings_takeByte (value : Byte) (framingError : Bool) (s : State) :
    settings (takeByte value framingError s) = settings s := by
  unfold takeByte
  split
  · split <;> rfl
  · split
    · rfl
    · split
      · rfl
      · unfold completeRecord
        split
        · rfl
        · exact settings_matchRecord _ _ _

/-! ## Requests -/

theorem settings_oldestRequest {isFor : Request → Bool} {places : Nat} {q : Request}
    (ho : oldestRequest isFor places s = some (q, t)) : settings t = settings s := by
  unfold oldestRequest at ho
  split at ho
  · cases ho
  · split at ho
    · cases ho; rfl
    · cases ho

/-- The taking of a request whose handler keeps what depends on the settings alone. -/
theorem takeRequestWith_keeps {P : State → Prop} (hP : ∀ {s t}, settings t = settings s → P s → P t)
    {places code length : Nat} {linkOnly : Bool} {handle : Request → State → State}
    (hh : ∀ q s, P s → P (handle q s)) (hs : P s) : P (takeRequestWith places code length linkOnly handle s) := by
  unfold takeRequestWith
  split
  · exact hs
  · next q s1 ho =>
    have h1 : P s1 := hP (settings_oldestRequest ho) hs
    split
    · exact hP (settings_respond ..) h1
    · split
      · exact hP (settings_respond ..) h1
      · exact hh q s1 h1

/-- A handler that writes no setting. -/
def LeavesSettings (handle : Request → State → State) : Prop := ∀ q s, settings (handle q s) = settings s

namespace LeavesSettings

variable {handle : Request → State → State}

theorem takeRequestWith (hh : LeavesSettings handle) (places code length : Nat) (linkOnly : Bool) (s : State) :
    settings (takeRequestWith places code length linkOnly handle s) = settings s :=
  takeRequestWith_keeps (P := fun t => settings t = settings s) Eq.trans (fun q t ht => (hh q t).trans ht) rfl

theorem takeRequest (hh : LeavesSettings handle) (code length : Nat) (linkOnly : Bool) (s : State) :
    settings (takeRequest code length linkOnly handle s) = settings s := hh.takeRequestWith 1 code length linkOnly s

theorem answerRead (f : Request → State → Option (List Byte)) : LeavesSettings (answerRead f) := fun q s => by
  unfold Machine.answerRead
  split <;> rfl

theorem handleStart : LeavesSettings handleStart := fun q s => by
  unfold Machine.handleStart
  split <;> simp

theorem handleDrain : LeavesSettings handleDrain := fun q s => by
  unfold Machine.handleDrain
  split <;> simp

theorem handleStop : LeavesSettings handleStop := fun q s => by
  unfold Machine.handleStop
  split <;> simp

theorem handleResume : LeavesSettings handleResume := fun q s => by
  unfold Machine.handleResume
  split
  · split
    · rw [settings_settleLine, settings_inEitherOrder settings_examineHead settings_examine]
      simp
    · rfl
  all_goals rfl

theorem handleInitialize : LeavesSettings handleInitialize := fun q s => by simp [Machine.handleInitialize]

theorem handleSetAir : LeavesSettings handleSetAir := fun q s => by
  unfold Machine.handleSetAir writeAir
  dsimp only
  split
  · rfl
  · split
    · split <;> simp
    · rfl

theorem handleSetPlaceTiming : LeavesSettings handleSetPlaceTiming := fun q s => by
  unfold Machine.handleSetPlaceTiming
  split <;> rfl

theorem withOutlet {f : Request → OutletId → State → State} (hf : ∀ q k s, settings (f q k s) = settings s) :
    LeavesSettings fun q s => withOutlet q (f q) s := fun q s => by
  dsimp only
  unfold Machine.withOutlet
  split
  · rfl
  · split
    · exact hf ..
    · rfl

theorem handleMask : LeavesSettings handleMask := withOutlet fun q k s => by simp

theorem handleUnmask : LeavesSettings handleUnmask := withOutlet fun q k s => by simp

theorem handleSetCrate : LeavesSettings handleSetCrate := withOutlet fun q k s => by
  dsimp only
  split
  · rfl
  · split <;> simp

theorem handleReloadCrate : LeavesSettings handleReloadCrate := withOutlet fun q k s => by
  dsimp only
  split <;> simp

theorem handleClearJam : LeavesSettings handleClearJam := withOutlet fun q k s => by
  split <;> simp

theorem withChannel {f : Request → ChannelId → State → State} (hf : ∀ q c s, settings (f q c s) = settings s) :
    LeavesSettings fun q s => withChannel q (f q) s := fun q s => by
  dsimp only
  unfold Machine.withChannel
  split
  · rfl
  · split
    · exact hf ..
    · rfl

theorem handleSetChannel : LeavesSettings handleSetChannel := withChannel fun q c s => by
  split
  · split
    · split <;> simp
    · rfl
  · rfl

theorem handleEnableChannel : LeavesSettings handleEnableChannel := withChannel fun q c s => by
  split <;> simp

theorem handleChannelOff : LeavesSettings handleChannelOff := withChannel fun q c s => by
  dsimp only
  split <;> simp

theorem withAccount {allowed : Fin 6 → StationId → Bool} {f : Request → Fin 6 → Fin 6 → State → State}
    (hf : ∀ q c i s, settings (f q c i s) = settings s) :
    LeavesSettings fun q s => withAccount q allowed (f q) s := fun q s => by
  dsimp only
  unfold Machine.withAccount
  split
  · split
    · exact hf ..
    · rfl
  · rfl

theorem handleIssue : LeavesSettings handleIssue := withAccount fun q c f s => by
  dsimp only
  split <;> simp [takeChange]

theorem handleAdjust : LeavesSettings handleAdjust := withAccount fun q c f s => by
  dsimp only
  split <;> simp [takeChange]

theorem handleSetValue : LeavesSettings handleSetValue := withAccount fun q c f s => by simp [takeChange]

theorem handleSetThreshold : LeavesSettings handleSetThreshold := withAccount fun q c f s => by
  dsimp only
  split <;> simp [takeChange]

theorem handleClearFlags : LeavesSettings handleClearFlags := withAccount fun _ _ _ _ => rfl

theorem handleSetBalanceMode : LeavesSettings handleSetBalanceMode := fun q s => by
  unfold Machine.handleSetBalanceMode
  split
  · rfl
  · split
    · split <;> rfl
    · rfl

theorem handleSetNoticeMask : LeavesSettings handleSetNoticeMask := fun _ _ => rfl

theorem handlePollNotices : LeavesSettings handlePollNotices := fun q s => by
  have hplaced : ∀ (l : List Notice) (s : State),
      settings (l.foldl (fun s n => placeFrame (noticeFrame q.station n) s) s) = settings s :=
    settings_foldl fun _ _ => rfl
  unfold Machine.handlePollNotices
  dsimp only
  split <;> simp [hplaced]

end LeavesSettings

/-! ## The commands -/

/-- A command that leaves the settings. -/
theorem settings_next {u : State} (hx : (.next u : Result) = .next t) (hu : settings u = settings s) :
    settings t = settings s := keeps_next (P := fun t => settings t = settings s) hu hx

theorem settings_execEncoderEvent (p : Phases) (hx : execEncoderEvent p s = .next t) : settings t = settings s := by
  unfold execEncoderEvent at hx
  split at hx
  · exact settings_next hx rfl
  · exact settings_next hx (settings_forwardStep (takePhases p s))
  · exact settings_next hx (settings_reverseStep (takePhases p s))
  · exact settings_next hx rfl

theorem settings_execSpeedIntervalClose (hx : execSpeedIntervalClose s = .next t) : settings t = settings s := by
  unfold execSpeedIntervalClose at hx
  split at hx
  · refine settings_next hx ?_
    rw [settings_settleLine, settings_evaluateTrack, settings_recomputeLeads]
    rfl
  · exact settings_next hx rfl

theorem settings_execFrameTimerExpiry (hx : execFrameTimerExpiry s = .next t) : settings t = settings s := by
  unfold execFrameTimerExpiry at hx
  split at hx
  · exact settings_next hx rfl
  · split at hx
    · exact settings_next hx rfl
    · exact settings_next hx rfl

theorem settings_execCaptureMessageBegin (hx : execCaptureMessageBegin s = .next t) : settings t = settings s := by
  unfold execCaptureMessageBegin at hx
  split at hx
  · exact settings_next hx rfl
  · exact settings_next hx rfl

theorem settings_execPulseEnd (k : OutletId) (hx : execPulseEnd k s = .next t) : settings t = settings s := by
  unfold execPulseEnd at hx
  split at hx
  · exact settings_next hx rfl
  · split at hx
    · exact settings_next hx (by simp)
    · exact settings_next hx rfl

theorem settings_execConfirmTimeout (k : OutletId) (hx : execConfirmTimeout k s = .next t) :
    settings t = settings s := by
  unfold execConfirmTimeout at hx
  split at hx
  · exact settings_next hx rfl
  · split at hx
    · exact settings_next hx (by simp)
    · exact settings_next hx rfl

theorem settings_execSettleTimeExpiry (c : ChannelId) (hx : execSettleTimeExpiry c s = .next t) :
    settings t = settings s := by
  unfold execSettleTimeExpiry at hx
  split at hx
  · split at hx
    · exact settings_next hx rfl
    · exact settings_next hx rfl
  · exact settings_next hx rfl

theorem settings_execChannelSample (c : ChannelId) (above : Bool) (hx : execChannelSample c above s = .next t) :
    settings t = settings s := by
  unfold execChannelSample scheduleSample at hx
  split at hx
  · exact settings_next hx rfl
  · split at hx
    · split at hx
      · exact settings_next hx (by simp)
      · exact settings_next hx (by simp)
      · exact settings_next hx rfl
      · exact settings_next hx rfl
    · exact settings_next hx rfl

theorem settings_execFrameArrival (frame : CanFrame) (remote : Bool) (hx : execFrameArrival frame remote s = .next t) :
    settings t = settings s := by
  unfold execFrameArrival receiveRequest at hx
  split at hx
  · exact settings_next hx rfl
  · split at hx
    · exact settings_next hx rfl
    · refine settings_next hx ?_
      split <;> rfl

theorem settings_execFrameTransmitted (hx : execFrameTransmitted s = .next t) : settings t = settings s := by
  unfold execFrameTransmitted at hx
  split at hx
  · exact settings_next hx rfl
  · exact settings_next hx rfl

theorem settings_execFrameTransmissionBegin (hx : execFrameTransmissionBegin s = .next t) :
    settings t = settings s := by
  unfold execFrameTransmissionBegin at hx
  split at hx
  · exact settings_next hx rfl
  · exact settings_next hx rfl

theorem settings_execUnassignedRequestCode (hx : execUnassignedRequestCode s = .next t) :
    settings t = settings s := by
  unfold execUnassignedRequestCode at hx
  split at hx
  · exact settings_next hx rfl
  · next ho => exact settings_next hx ((settings_respond ..).trans (settings_oldestRequest ho))

/-- A property that depends on the settings alone and that power-on and the four requests that write them keep. -/
structure SettingsClosed (P : State → Prop) : Prop where
  same {s t : State} : settings t = settings s → P s → P t
  powerOn (p : Phases) (e : Bool) (s : State) :
    P { State.powerOn p e with draws := s.draws, pending := s.pending }
  setGeometry (q : Request) (s : State) : P s → P (handleSetGeometry q s)
  setSpeedCodes (q : Request) (s : State) : P s → P (handleSetSpeedCodes q s)
  setOutletPlace (q : Request) (s : State) : P s → P (handleSetOutletPlace q s)
  setRoute (q : Request) (s : State) : P s → P (handleSetRoute q s)

namespace SettingsClosed

variable {P : State → Prop} (h : SettingsClosed P)
include h

/-- The taking of a request that writes settings. -/
theorem taken {u : State} {code length : Nat} {linkOnly : Bool} {handle : Request → State → State}
    (hh : ∀ q s, P s → P (handle q s)) (hs : P s)
    (hx : (.next (takeRequest code length linkOnly handle s) : Result) = .next u) : P u :=
  keeps_next (takeRequestWith_keeps h.same hh hs) hx

/-- A command that leaves the settings. -/
theorem left {u : State} (hu : settings u = settings s) (hs : P s) (hx : (.next u : Result) = .next t) : P t :=
  keeps_next (h.same hu hs) hx

theorem exec {c : Instr} (hs : P s) (hx : exec c s = .next t) : P t := by
  cases c with
  | powerOn p e => exact keeps_next (h.powerOn p e s) hx
  | setGeometry => exact h.taken h.setGeometry hs hx
  | setSpeedCodes => exact h.taken h.setSpeedCodes hs hx
  | setOutletPlace => exact h.taken h.setOutletPlace hs hx
  | setRoute => exact h.taken h.setRoute hs hx
  | encoderEvent p => exact h.same (settings_execEncoderEvent p hx) hs
  | speedIntervalClose => exact h.same (settings_execSpeedIntervalClose hx) hs
  | geLeadingEdge => exact h.left (settings_takeLeadingEdge s) hs hx
  | geTrailingEdge => exact h.left (settings_takeTrailingEdge s) hs hx
  | chuteGateRising k => exact h.left (settings_takeChuteRising k s) hs hx
  | crateRemoved k => exact h.left (settings_takeCrateFalling k s) hs hx
  | cratePlaced k => exact h.left (settings_takeCrateRising k s) hs hx
  | readyLineRising k => exact h.left (settings_takeReadyRising k s) hs hx
  | readyLineFalling k => exact h.left (settings_takeReadyFalling k s) hs hx
  | receiveByte value framingError => exact h.left (settings_takeByte value framingError s) hs hx
  | frameTimerExpiry => exact h.same (settings_execFrameTimerExpiry hx) hs
  | captureMessageBegin => exact h.same (settings_execCaptureMessageBegin hx) hs
  | captureMessageSent => exact h.left (settings_onAdmission s _) hs hx
  | pulseEnd k => exact h.same (settings_execPulseEnd k hx) hs
  | confirmTimeout k => exact h.same (settings_execConfirmTimeout k hx) hs
  | estopAssertion => exact h.left (by simp) hs hx
  | estopRelease => exact h.left (by simp) hs hx
  | settleTimeExpiry c => exact h.same (settings_execSettleTimeExpiry c hx) hs
  | channelSample c above => exact h.same (settings_execChannelSample c above hx) hs
  | frameArrival frame remote => exact h.same (settings_execFrameArrival frame remote hx) hs
  | frameTransmitted => exact h.same (settings_execFrameTransmitted hx) hs
  | unassignedRequestCode => exact h.same (settings_execUnassignedRequestCode hx) hs
  | start => exact h.left (LeavesSettings.handleStart.takeRequest ..) hs hx
  | drain => exact h.left (LeavesSettings.handleDrain.takeRequest ..) hs hx
  | stop => exact h.left (LeavesSettings.handleStop.takeRequest ..) hs hx
  | resume => exact h.left (LeavesSettings.handleResume.takeRequest ..) hs hx
  | initializeLine => exact h.left (LeavesSettings.handleInitialize.takeRequest ..) hs hx
  | setAir => exact h.left (LeavesSettings.handleSetAir.takeRequest ..) hs hx
  | setPlaceTiming => exact h.left (LeavesSettings.handleSetPlaceTiming.takeRequest ..) hs hx
  | mask => exact h.left (LeavesSettings.handleMask.takeRequest ..) hs hx
  | unmask => exact h.left (LeavesSettings.handleUnmask.takeRequest ..) hs hx
  | setCrate => exact h.left (LeavesSettings.handleSetCrate.takeRequest ..) hs hx
  | reloadCrate => exact h.left (LeavesSettings.handleReloadCrate.takeRequest ..) hs hx
  | clearJam => exact h.left (LeavesSettings.handleClearJam.takeRequest ..) hs hx
  | setChannel => exact h.left (LeavesSettings.handleSetChannel.takeRequest ..) hs hx
  | enableChannel => exact h.left (LeavesSettings.handleEnableChannel.takeRequest ..) hs hx
  | channelOff => exact h.left (LeavesSettings.handleChannelOff.takeRequest ..) hs hx
  | issue => exact h.left (LeavesSettings.handleIssue.takeRequest ..) hs hx
  | adjust => exact h.left (LeavesSettings.handleAdjust.takeRequest ..) hs hx
  | setValue => exact h.left (LeavesSettings.handleSetValue.takeRequest ..) hs hx
  | setBalanceMode => exact h.left (LeavesSettings.handleSetBalanceMode.takeRequest ..) hs hx
  | setThreshold => exact h.left (LeavesSettings.handleSetThreshold.takeRequest ..) hs hx
  | clearFlags => exact h.left (LeavesSettings.handleClearFlags.takeRequest ..) hs hx
  | readLine => exact h.left ((LeavesSettings.answerRead _).takeRequest ..) hs hx
  | readOutlet => exact h.left ((LeavesSettings.answerRead _).takeRequest ..) hs hx
  | readConfirmQueue => exact h.left ((LeavesSettings.answerRead _).takeRequest ..) hs hx
  | readTrackEntry => exact h.left ((LeavesSettings.answerRead _).takeRequest ..) hs hx
  | readPending => exact h.left ((LeavesSettings.answerRead _).takeRequest ..) hs hx
  | readRoute => exact h.left ((LeavesSettings.answerRead _).takeRequest ..) hs hx
  | readChannel => exact h.left ((LeavesSettings.answerRead _).takeRequest ..) hs hx
  | readBalance => exact h.left ((LeavesSettings.answerRead _).takeRequest ..) hs hx
  | readCounts => exact h.left ((LeavesSettings.answerRead _).takeRequest ..) hs hx
  | setNoticeMask => exact h.left (LeavesSettings.handleSetNoticeMask.takeRequest ..) hs hx
  | pollNotices => exact h.left (LeavesSettings.handlePollNotices.takeRequestWith ..) hs hx
  | inputSample ge chutes crates readies =>
    exact h.same (settings_next hx (settings_handEdges s.sensing.edges.length s)) hs
  | frameTransmissionBegin => exact h.same (settings_execFrameTransmissionBegin hx) hs

/-- Every step keeps it. -/
theorem step (hs : P s) (hx : step s = .next t) : P t := by
  unfold Machine.step at hx
  split at hx
  · exact keeps_next hs hx
  · next c rest _ =>
    have h1 : P { s with pending := rest } := h.same (s := s) rfl hs
    exact h.exec h1 hx

end SettingsClosed

end Sys2Proof.Machine
end

section
/-! SUPPORT. The checks of a placement and of a belt end, and the four requests that write settings keep the geometry
and the routes sound (R71 to R73, R113, R117, R120 to R124, R169). -/

namespace Sys2Proof.Machine

open Sys2Proof

variable {s t : State} {k : OutletId}

/-! ## What the checks ask -/

theorem timingInRange_iff (p : PlacementStage) : timingInRange p = true ↔
    p.latency ≤ 250 ∧ p.extension ≤ 50 ∧ 10 ≤ p.minPulse ∧ p.minPulse ≤ 100 ∧ 20 ≤ p.maxPulse ∧ p.maxPulse ≤ 500 ∧
      p.minPulse ≤ p.maxPulse := by
  simp only [timingInRange, Bool.and_eq_true, decide_eq_true_eq, and_assoc]

theorem offsetInOrder_iff (d : Nat) (j : OutletId) : offsetInOrder k d s j = true ↔
    ∀ e, s.timing[j].offset = some e → (j < k → e < d) ∧ (k < j → d < e) := by
  unfold offsetInOrder
  cases s.timing[j].offset with
  | none => simp
  | some e =>
    simp only [Option.some.injEq, forall_eq']
    split
    · next hj => simp [hj, hj.asymm]
    · next hj => split <;> simp_all

/-- The checks of an offset: its range, its order with the other offsets, and its distance to the belt end (R72). -/
theorem offsetAllowed_iff (d : Nat) : offsetAllowed k d s = true ↔
    660 ≤ d ∧ d ≤ 3000 ∧ (∀ (j : OutletId) (e : Nat), j < k → s.timing[j].offset = some e → e < d) ∧
      (∀ (j : OutletId) (e : Nat), k < j → s.timing[j].offset = some e → d < e) ∧
      (∀ e, s.geometry.beltEnd = some e → d + 100 ≤ e) := by
  have hall : allOutlets.all (offsetInOrder k d s) = true ↔
      (∀ (j : OutletId) (e : Nat), j < k → s.timing[j].offset = some e → e < d) ∧
      (∀ (j : OutletId) (e : Nat), k < j → s.timing[j].offset = some e → d < e) := by
    have hmem : ∀ j : OutletId, j ∈ allOutlets := by decide
    simp only [List.all_eq_true, offsetInOrder_iff, hmem, forall_const]
    exact ⟨fun h => ⟨fun j e hj he => (h j e he).1 hj, fun j e hj he => (h j e he).2 hj⟩,
      fun h j e he => ⟨fun hj => h.1 j e hj he, fun hj => h.2 j e hj he⟩⟩
  unfold offsetAllowed
  simp only [Bool.and_eq_true, decide_eq_true_eq, hall, and_assoc]
  cases s.geometry.beltEnd <;> simp

/-- The check of a belt end against every offset present (R73). -/
theorem beyondOffsets_iff (e : Nat) (s : State) : beyondOffsets e s = true ↔
    ∀ (k : OutletId) (d : Nat), s.timing[k].offset = some d → d + 100 ≤ e := by
  unfold beyondOffsets
  simp only [List.all_eq_true, Vector.mem_toList_iff]
  constructor
  · intro h k d hk
    have hk' := h s.timing[k] (Vector.getElem_mem _)
    rw [hk] at hk'
    exact of_decide_eq_true hk'
  · intro h t ht
    obtain ⟨i, hi, rfl⟩ := Vector.mem_iff_getElem.1 ht
    split
    · rfl
    · next d hd => exact decide_eq_true (h ⟨i, hi⟩ d hd)

/-- The values of a placement: what passes every check, and what is read from the request and the stage (R113, R174). -/
theorem placementValues_eq_some {q : Request} {p : Placement} : placementValues k q s = some p ↔
    OutletMode.ofCode (q.byte 3 / 16) = some p.mode ∧ stationOf (q.byte 3 % 16) = some p.owner ∧
    s.link.stage = some p.stage ∧ q.word 4 = p.confirmWindow ∧ q.word 6 = p.offset ∧
    (50 ≤ p.confirmWindow ∧ p.confirmWindow ≤ 1000 ∧ p.stage.outlet = k ∧ timingInRange p.stage = true ∧
      offsetAllowed k p.offset s = true) := by
  obtain ⟨mode, owner, window, offset, stage⟩ := p
  unfold placementValues
  split
  · next mode' owner' stage' hm ho hs =>
    dsimp only
    rw [hm, ho, hs]
    split
    · next hc =>
      simp only [Option.some.injEq, Placement.mk.injEq]
      constructor
      · rintro ⟨rfl, rfl, rfl, rfl, rfl⟩
        exact ⟨rfl, rfl, rfl, rfl, rfl, hc⟩
      · rintro ⟨rfl, rfl, rfl, rfl, rfl, -⟩
        exact ⟨rfl, rfl, rfl, rfl, rfl⟩
    · next hc =>
      refine iff_of_false (by simp) ?_
      simp only [Option.some.injEq]
      rintro ⟨rfl, rfl, rfl, rfl, rfl, h⟩
      exact hc h
  · next hn =>
    refine iff_of_false (by simp) ?_
    rintro ⟨hm, ho, hs, -⟩
    exact hn _ _ _ hm ho hs

/-! ## What soundness reads -/

theorem OutletTiming.parameters_eq_iff (x y : OutletTiming) : x.parameters = y.parameters ↔
    x.offset = y.offset ∧ x.latency = y.latency ∧ x.extension = y.extension ∧ x.minPulse = y.minPulse ∧
      x.maxPulse = y.maxPulse := by
  simp [OutletTiming.parameters]

theorem GeometrySound.of_agrees (hs : GeometrySound s)
    (ht : ∀ k : OutletId, t.timing[k].parameters = s.timing[k].parameters) (hg : t.geometry = s.geometry)
    (hr : t.line.runCode = s.line.runCode) (hc : t.line.slowCode = s.line.slowCode)
    (hm : t.line.slowMark = s.line.slowMark) : GeometrySound t := by
  simp only [OutletTiming.parameters_eq_iff] at ht
  simpa only [GeometrySound, ht, hg, hr, hc, hm] using hs

theorem GeometrySound.elsewhere (hs : GeometrySound s) (ht : t.timing = s.timing) (hg : t.geometry = s.geometry)
    (hl : t.line = s.line) : GeometrySound t :=
  hs.of_agrees (fun _ => by rw [ht]) hg (by rw [hl]) (by rw [hl]) (by rw [hl])

/-- A route entry of a row that can be followed and names no foreign outlet (R117, R120). -/
def EntrySound (row : StationId) (e : RouteEntry) (s : State) : Prop :=
  (∀ k : OutletId, e.primary = some k ∨ e.alternate = some k →
    (∃ d, s.timing[k].offset = some d) ∧ (s.outlets[k].owner = 0 ∨ s.outlets[k].owner = row)) ∧
  (∀ a : OutletId, e.alternate = some a → ∃ p dp da, e.primary = some p ∧ s.timing[p].offset = some dp ∧
    s.timing[a].offset = some da ∧ dp < da)

theorem routesSound_iff (s : State) :
    RoutesSound s ↔ ∀ (row : StationId) (c : Fin 11), EntrySound row s.routes[row].entries[c] s := Iff.rfl

theorem EntrySound.of_agrees {row : StationId} {e : RouteEntry} (he : EntrySound row e s)
    (ht : ∀ k : OutletId, t.timing[k].offset = s.timing[k].offset)
    (ho : ∀ k : OutletId, t.outlets[k].owner = s.outlets[k].owner) : EntrySound row e t := by
  simpa only [EntrySound, ht, ho] using he

theorem RoutesSound.of_agrees (hs : RoutesSound s) (ht : ∀ k : OutletId, t.timing[k].offset = s.timing[k].offset)
    (ho : ∀ k : OutletId, t.outlets[k].owner = s.outlets[k].owner) (hr : t.routes = s.routes) : RoutesSound t := by
  intro row c
  rw [hr]
  exact EntrySound.of_agrees (hs row c) ht ho

theorem RoutesSound.elsewhere (hs : RoutesSound s) (ht : t.timing = s.timing) (ho : t.outlets = s.outlets)
    (hr : t.routes = s.routes) : RoutesSound t := hs.of_agrees (fun _ => by rw [ht]) (fun _ => by rw [ho]) hr

/-! ## SET GEOMETRY and SET SPEED CODES -/

theorem geometrySound_handleSetGeometry (q : Request) (s : State) (hs : GeometrySound s) :
    GeometrySound (handleSetGeometry q s) := by
  have hr : ∀ status, GeometrySound (respond q status [] s) := fun _ => hs.elsewhere rfl rfl rfl
  unfold handleSetGeometry
  split
  · dsimp only
    split
    · next hc =>
      obtain ⟨hd, hd', he, he', hb, hm, hm'⟩ := hc
      obtain ⟨htiming, hoffset, horder, -, -, -, hcodes⟩ := hs
      refine ⟨htiming, fun k d hk => ?_, horder, ⟨hd, hd'⟩, fun e hq => ?_, ⟨hm, hm'⟩, hcodes⟩
      · obtain ⟨hlo, hhi, -⟩ := hoffset k d hk
        refine ⟨hlo, hhi, fun e hq => ?_⟩
        cases hq
        exact (beyondOffsets_iff _ s).1 hb k d hk
      · cases hq
        exact ⟨he, he'⟩
    · exact hr _
  · exact hr _

/-- SET GEOMETRY touches nothing that the routes rest on. -/
theorem routesSound_handleSetGeometry (q : Request) (s : State) (hs : RoutesSound s) :
    RoutesSound (handleSetGeometry q s) := by
  unfold handleSetGeometry
  dsimp only
  split
  · split
    · exact hs.elsewhere rfl rfl rfl
    · exact hs.elsewhere rfl rfl rfl
  · exact hs.elsewhere rfl rfl rfl

theorem Request.byte_le (q : Request) (i : Nat) : q.byte i ≤ 255 := by
  have := (q.data.getD i 0).isLt
  unfold Request.byte
  omega

theorem geometrySound_handleSetSpeedCodes (q : Request) (s : State) (hs : GeometrySound s) :
    GeometrySound (handleSetSpeedCodes q s) := by
  unfold handleSetSpeedCodes
  dsimp only
  split
  · next hc =>
    obtain ⟨-, hslow, hle⟩ := hc
    obtain ⟨htiming, hoffset, horder, hq, hend, hmark, -⟩ := hs
    exact ⟨htiming, hoffset, horder, hq, hend, hmark, hslow, hle, q.byte_le 2⟩
  · exact hs.elsewhere rfl rfl rfl

theorem routesSound_handleSetSpeedCodes (q : Request) (s : State) (hs : RoutesSound s) :
    RoutesSound (handleSetSpeedCodes q s) := by
  unfold handleSetSpeedCodes
  dsimp only
  split
  · exact hs.elsewhere rfl rfl rfl
  · exact hs.elsewhere rfl rfl rfl

/-! ## SET ROUTE -/

theorem not_foreign_iff {owner row : StationId} : foreign owner row = false ↔ owner = 0 ∨ owner = row := by
  by_cases h : owner = 0 <;> simp [foreign, h]

/-- A route that the belt allows and that names no foreign outlet is sound (R120, R121). -/
theorem entrySound_of_checks {row : StationId} {primary alternate : Option OutletId} {m : Confidence}
    (hf : ∀ k ∈ namedOutlets primary alternate, foreign s.outlets[k].owner row = false)
    (hshape : routeShape primary alternate s = true) :
    EntrySound row { primary := primary, alternate := alternate, minConfidence := m } s := by
  have howner : ∀ k : OutletId, primary = some k ∨ alternate = some k →
      s.outlets[k].owner = 0 ∨ s.outlets[k].owner = row := fun k hk =>
    not_foreign_iff.1 (hf k (by simpa [namedOutlets] using hk))
  unfold routeShape at hshape
  split at hshape
  · exact ⟨fun k hk => by simp at hk, fun a ha => by simp at ha⟩
  · cases hshape
  · next p =>
    refine ⟨fun k hk => ⟨?_, howner k hk⟩, fun a ha => by simp at ha⟩
    obtain rfl : p = k := by simpa using hk
    exact Option.isSome_iff_exists.1 hshape
  · next p a =>
    split at hshape
    · next dp da hp ha =>
      have hlt : dp < da := of_decide_eq_true (Bool.and_eq_true_iff.1 hshape).2
      refine ⟨fun k hk => ⟨?_, howner k hk⟩, fun j hj => ?_⟩
      · rcases hk with hk | hk
        · cases hk; exact ⟨dp, hp⟩
        · cases hk; exact ⟨da, ha⟩
      · cases hj
        exact ⟨p, dp, da, rfl, hp, ha, hlt⟩
    · cases hshape

theorem writeRoute_entry (row r : StationId) (c i : Fin 11) (e : RouteEntry) (s : State) :
    (writeRoute row c e s).routes[r].entries[i] = if r = row ∧ i = c then e else s.routes[r].entries[i] := by
  simp only [writeRoute, State.onRoutes_routes, Fin.getElem_fin, Vector.getElem_set]
  by_cases hr : r = row
  · subst hr
    by_cases hi : i = c
    · simp [hi]
    · have hi' : c.val ≠ i.val := fun h => hi (Fin.ext h.symm)
      simp [hi, hi']
  · have hr' : row.val ≠ r.val := fun h => hr (Fin.ext h.symm)
    simp [hr, hr']

theorem geometrySound_handleSetRoute (q : Request) (s : State) (hs : GeometrySound s) :
    GeometrySound (handleSetRoute q s) := by
  unfold handleSetRoute
  split
  · split
    · split
      · split
        · exact hs.elsewhere rfl rfl rfl
        · split
          · exact hs.elsewhere rfl rfl rfl
          · exact hs.elsewhere rfl rfl rfl
      · exact hs.elsewhere rfl rfl rfl
    · exact hs.elsewhere rfl rfl rfl
  · exact hs.elsewhere rfl rfl rfl

theorem routesSound_handleSetRoute (q : Request) (s : State) (hs : RoutesSound s) :
    RoutesSound (handleSetRoute q s) := by
  have hr : ∀ status bytes, RoutesSound (respond q status bytes s) := fun _ _ => hs.elsewhere rfl rfl rfl
  unfold handleSetRoute
  split
  · split
    · split
      · split
        · exact hr _ _
        · next hforeign =>
          split
          · next hshape =>
            intro r i
            rw [writeRoute_entry]
            split
            · next hri =>
              rw [hri.1]
              have hnamed := fun k hk => Bool.eq_false_iff.2 fun hf => hforeign (List.any_eq_true.2 ⟨k, hk, hf⟩)
              exact (entrySound_of_checks hnamed hshape).of_agrees (fun _ => rfl) fun _ => rfl
            · exact hr _ _ r i
          · exact hr _ _
      · exact hr _ _
    · exact hr _ _
  · exact hr _ _

/-! ## SET OUTLET PLACE -/

theorem writeTiming_get (p : Placement) (s : State) (j : OutletId) : (writeTiming k p s).timing[j] =
    if j = k then
      { s.timing[j] with
        offset := some p.offset
        latency := p.stage.latency
        extension := p.stage.extension
        minPulse := p.stage.minPulse
        maxPulse := p.stage.maxPulse
        lead := leadOf p.stage.latency s.sensing.speed }
    else s.timing[j] := State.onTiming_get ..

theorem writeTiming_offset (p : Placement) (s : State) (j : OutletId) :
    (writeTiming k p s).timing[j].offset = if j = k then some p.offset else s.timing[j].offset := by
  rw [writeTiming_get, apply_ite OutletTiming.offset]

/-- Timing values in range and an offset that is allowed keep the geometry sound (R71, R72). -/
theorem geometrySound_writeTiming {p : Placement} (hs : GeometrySound s) (hr : timingInRange p.stage = true)
    (ho : offsetAllowed k p.offset s = true) : GeometrySound (writeTiming k p s) := by
  obtain ⟨htiming, hoffset, horder, hrest⟩ := hs
  obtain ⟨hlo, hhi, hup, hdown, hend⟩ := (offsetAllowed_iff p.offset).1 ho
  refine ⟨fun j => ?_, fun j d hj => ?_, fun i j di dj hij hi hj => ?_, hrest⟩
  · rw [writeTiming_get]
    split
    · exact (timingInRange_iff p.stage).1 hr
    · exact htiming j
  · rw [writeTiming_offset] at hj
    split at hj
    · cases hj
      exact ⟨hlo, hhi, hend⟩
    · exact hoffset j d hj
  · rw [writeTiming_offset] at hi hj
    split at hi
    · next hik =>
      cases hi
      rw [if_neg (fun hjk => (hij.ne (hik.trans hjk.symm)).elim)] at hj
      exact hdown j dj (hik ▸ hij) hj
    · split at hj
      · next hjk =>
        cases hj
        exact hup i di (hjk ▸ hij) hi
      · exact horder i j di dj hij hi hj

/-- The placement before the outlet takes its state: timing, record and the routes of an owner change (R114, R123). -/
def located (k : OutletId) (p : Placement) (s : State) : State :=
  (writeTiming k p s).onOutlet k fun o => { o with mode := p.mode, owner := p.owner, confirmWindow := p.confirmWindow }

/-- The routes of an owner change of outlet `k` (R123). -/
def rerouted (k : OutletId) (before after : StationId) (s : State) : State :=
  if before = after then s else resetForeignRoutes k after s

/-- A placement before the outlet takes its state, the stage emptied (R114, R174). -/
def placed (k : OutletId) (p : Placement) (s : State) : State :=
  (rerouted k s.outlets[k].owner p.owner (located k p s)).onLink fun l => { l with stage := none }

theorem placeOutlet_eq (k : OutletId) (p : Placement) (s : State) :
    placeOutlet k p s = enterPlaced k s.outlets[k].state s.outlets[k].mode (placed k p s) := rfl

theorem settings_placeOutlet (k : OutletId) (p : Placement) (s : State) :
    settings (placeOutlet k p s) = settings (rerouted k s.outlets[k].owner p.owner (located k p s)) := by
  rw [placeOutlet_eq, settings_enterPlaced, placed, settings_onLink]

/-- An owner change touches the routes alone. -/
theorem rerouted_eq (k : OutletId) (before after : StationId) (s : State) :
    rerouted k before after s = { s with routes := (rerouted k before after s).routes } := by
  unfold rerouted
  split <;> rfl

theorem located_owner (p : Placement) (s : State) (j : OutletId) :
    (located k p s).outlets[j].owner = if j = k then p.owner else s.outlets[j].owner := by
  rw [located, State.onOutlet_get, apply_ite Outlet.owner]
  rfl

/-! A dropped outlet is named no more, and what a route names besides stays in its place (R124). -/

theorem dropOutlet_primary {e : RouteEntry} {j : OutletId} :
    (dropOutlet k e).primary = some j ↔ e.primary = some j ∧ j ≠ k := by
  unfold dropOutlet
  split
  · next h => simp [h, eq_comm]
  · next h =>
    have hne : e.primary = some j → j ≠ k := fun hj hjk => h (hjk ▸ hj)
    split <;> simpa using hne

theorem dropOutlet_alternate {e : RouteEntry} {j : OutletId} :
    (dropOutlet k e).alternate = some j ↔ e.alternate = some j ∧ j ≠ k ∧ e.primary ≠ some k := by
  unfold dropOutlet
  split
  · next h => simp [h]
  · next h =>
    split
    · next ha =>
      refine iff_of_false (by simp) fun hj => hj.2.1 (Option.some.inj (hj.1.symm.trans ha))
    · next ha =>
      have hne : e.alternate = some j → j ≠ k := fun hj hjk => ha (hjk ▸ hj)
      simpa [h] using hne

/-- A row's entries with an outlet dropped, whether the row names it or not. -/
theorem dropFromRow_entry (r : RouteRow) (c : Fin 11) :
    (dropFromRow k r).entries[c] = dropOutlet k r.entries[c] := by
  unfold dropFromRow
  split
  · simp
  · next hn =>
    have hmem : r.entries[c] ∈ r.entries.toList := Vector.mem_toList_iff.2 (Vector.getElem_mem _)
    have hc : r.entries[c].names k = false := Bool.eq_false_iff.2 fun h => hn (List.any_eq_true.2 ⟨_, hmem, h⟩)
    simp only [RouteEntry.names, Bool.or_eq_false_iff, beq_eq_false_iff_ne] at hc
    rw [dropOutlet, if_neg hc.1, if_neg hc.2]

theorem resetForeignRoutes_entry (owner row : StationId) (c : Fin 11) (s : State) :
    (resetForeignRoutes k owner s).routes[row].entries[c] =
      if foreign owner row = true then dropOutlet k s.routes[row].entries[c] else s.routes[row].entries[c] := by
  simp only [resetForeignRoutes, State.onRoutes_routes, Fin.getElem_fin, Vector.getElem_ofFn]
  split
  · exact dropFromRow_entry _ c
  · rfl

theorem EntrySound.dropOutlet {row : StationId} {e : RouteEntry} (he : EntrySound row e s) :
    EntrySound row (dropOutlet k e) s := by
  obtain ⟨hnamed, halternate⟩ := he
  refine ⟨fun j hj => hnamed j ?_, fun a ha => ?_⟩
  · rw [dropOutlet_primary, dropOutlet_alternate] at hj
    exact hj.imp And.left And.left
  · obtain ⟨ha, -, hp⟩ := dropOutlet_alternate.1 ha
    obtain ⟨p, dp, da, hpe, hdp, hda, hlt⟩ := halternate a ha
    exact ⟨p, dp, da, dropOutlet_primary.2 ⟨hpe, fun hpk => hp (hpk ▸ hpe)⟩, hdp, hda, hlt⟩

/-- Offsets that increase with the outlet number tell the order of two outlets. -/
theorem GeometrySound.lt_of_offset_lt (hs : GeometrySound s) {i j : OutletId} {di dj : Nat}
    (hi : s.timing[i].offset = some di) (hj : s.timing[j].offset = some dj) (hlt : di < dj) : i < j := by
  obtain ⟨-, -, horder, -⟩ := hs
  rcases lt_trichotomy i j with h | rfl | h
  · exact h
  · rw [hi] at hj
    cases hj
    exact absurd hlt (lt_irrefl _)
  · exact absurd hlt (horder j i dj di h hj hi).asymm

/-- A sound entry stays sound when offsets move but keep their order, as long as its outlets are not foreign. -/
theorem EntrySound.moved {row : StationId} {e : RouteEntry} (he : EntrySound row e s) (hs : GeometrySound s)
    (ht : GeometrySound t) (hoffset : ∀ j : OutletId, s.timing[j].offset.isSome → t.timing[j].offset.isSome)
    (howner : ∀ j : OutletId, e.primary = some j ∨ e.alternate = some j →
      t.outlets[j].owner = 0 ∨ t.outlets[j].owner = row) : EntrySound row e t := by
  have hpresent : ∀ {j : OutletId} {d : Nat}, s.timing[j].offset = some d → ∃ d', t.timing[j].offset = some d' :=
    fun hj => Option.isSome_iff_exists.1 (hoffset _ (by rw [hj]; rfl))
  obtain ⟨hnamed, halternate⟩ := he
  refine ⟨fun j hj => ?_, fun a ha => ?_⟩
  · obtain ⟨⟨d, hd⟩, -⟩ := hnamed j hj
    exact ⟨hpresent hd, howner j hj⟩
  · obtain ⟨p, dp, da, hp, hdp, hda, hlt⟩ := halternate a ha
    obtain ⟨dp', hdp'⟩ := hpresent hdp
    obtain ⟨da', hda'⟩ := hpresent hda
    obtain ⟨-, -, horder, -⟩ := ht
    exact ⟨p, dp', da', hp, hdp', hda', horder p a dp' da' (hs.lt_of_offset_lt hdp hda hlt) hdp' hda'⟩

theorem geometrySound_placeOutlet {p : Placement} (hs : GeometrySound s) (hr : timingInRange p.stage = true)
    (ho : offsetAllowed k p.offset s = true) : GeometrySound (placeOutlet k p s) := by
  have hw : GeometrySound (rerouted k s.outlets[k].owner p.owner (located k p s)) := by
    rw [rerouted_eq]
    exact geometrySound_writeTiming hs hr ho
  obtain ⟨ht, -, hg, -, hrun, hslow, hmark⟩ := settings_eq_iff.1 (settings_placeOutlet k p s)
  exact hw.of_agrees ht hg hrun hslow hmark

/-- A placement keeps the routes sound: the moved offset keeps its place in the order, and the routes to which its new
owner is foreign let the outlet go (R72, R120, R124). -/
theorem routesSound_placeOutlet {p : Placement} (hs : GeometrySound s) (hroutes : RoutesSound s)
    (hr : timingInRange p.stage = true) (ho : offsetAllowed k p.offset s = true) :
    RoutesSound (placeOutlet k p s) := by
  have hw : GeometrySound (located k p s) := geometrySound_writeTiming hs hr ho
  have hoffset : ∀ j : OutletId, s.timing[j].offset.isSome → (located k p s).timing[j].offset.isSome := by
    intro j hj
    show ((writeTiming k p s).timing[j].offset).isSome
    rw [writeTiming_offset]
    split
    · rfl
    · exact hj
  have hrerouted : RoutesSound (rerouted k s.outlets[k].owner p.owner (located k p s)) := by
    intro row c
    have hentry : EntrySound row s.routes[row].entries[c] s := hroutes row c
    show EntrySound row _ _
    unfold rerouted
    split
    · next hsame =>
      refine hentry.moved hs hw hoffset fun j hj => ?_
      rw [located_owner]
      split
      · next hjk =>
        subst hjk
        rw [← hsame]
        exact (hentry.1 j hj).2
      · exact (hentry.1 j hj).2
    · rw [resetForeignRoutes_entry]
      refine EntrySound.of_agrees (s := located k p s) ?_ (fun _ => rfl) fun _ => rfl
      split
      · refine hentry.dropOutlet.moved hs hw hoffset fun j hj => ?_
        rw [located_owner, if_neg]
        · exact (hentry.dropOutlet.1 j hj).2
        · rw [dropOutlet_primary, dropOutlet_alternate] at hj
          exact hj.elim (·.2) (·.2.1)
      · next hf =>
        refine hentry.moved hs hw hoffset fun j hj => ?_
        rw [located_owner]
        split
        · exact not_foreign_iff.1 (Bool.eq_false_iff.2 hf)
        · exact (hentry.1 j hj).2
  obtain ⟨ht, howner, -, hrows, -⟩ := settings_eq_iff.1 (settings_placeOutlet k p s)
  exact hrerouted.of_agrees (fun j => ((OutletTiming.parameters_eq_iff ..).1 (ht j)).1) howner hrows

/-- SET OUTLET PLACE changes settings by a placement that passed the checks of value alone. -/
theorem handleSetOutletPlace_keeps {P : State → Prop} (hP : ∀ {s t}, settings t = settings s → P s → P t)
    (hplace : ∀ (k : OutletId) (p : Placement) (s : State), timingInRange p.stage = true →
      offsetAllowed k p.offset s = true → P s → P (placeOutlet k p s)) (q : Request) (s : State) (hs : P s) :
    P (handleSetOutletPlace q s) := by
  have hr : ∀ status, P (respond q status [] s) := fun _ => hP (s := s) rfl hs
  unfold handleSetOutletPlace
  split
  · exact hr _
  · split
    · exact hr _
    · split
      · exact hr _
      · split
        · exact hr _
        · next hp =>
          obtain ⟨-, -, -, -, -, -, -, -, hrange, hoffset⟩ := placementValues_eq_some.1 hp
          exact hplace _ _ _ hrange hoffset (hr .done)

/-! ## The two invariants -/

theorem geometrySound_of_settings (h : settings t = settings s) (hs : GeometrySound s) : GeometrySound t := by
  obtain ⟨ht, -, hg, -, hrun, hslow, hmark⟩ := settings_eq_iff.1 h
  exact hs.of_agrees ht hg hrun hslow hmark

theorem routesSound_of_settings (h : settings t = settings s) (hs : RoutesSound s) : RoutesSound t := by
  obtain ⟨ht, ho, -, hr, -⟩ := settings_eq_iff.1 h
  exact hs.of_agrees (fun k => ((OutletTiming.parameters_eq_iff ..).1 (ht k)).1) ho hr

theorem settingsClosed_geometrySound : SettingsClosed GeometrySound where
  same := geometrySound_of_settings
  powerOn := geometrySound_powerOn
  setGeometry := geometrySound_handleSetGeometry
  setSpeedCodes := geometrySound_handleSetSpeedCodes
  setOutletPlace := handleSetOutletPlace_keeps geometrySound_of_settings fun _ _ _ hr ho hs =>
    geometrySound_placeOutlet hs hr ho
  setRoute := geometrySound_handleSetRoute

/-- The routes stay sound beside a sound geometry. -/
theorem settingsClosed_geometryAndRoutes : SettingsClosed fun s => GeometrySound s ∧ RoutesSound s where
  same h hs := ⟨geometrySound_of_settings h hs.1, routesSound_of_settings h hs.2⟩
  powerOn p e s := ⟨geometrySound_powerOn p e s, routesSound_powerOn p e s⟩
  setGeometry q s hs := ⟨geometrySound_handleSetGeometry q s hs.1, routesSound_handleSetGeometry q s hs.2⟩
  setSpeedCodes q s hs := ⟨geometrySound_handleSetSpeedCodes q s hs.1, routesSound_handleSetSpeedCodes q s hs.2⟩
  setOutletPlace := handleSetOutletPlace_keeps
    (fun h hs => ⟨geometrySound_of_settings h hs.1, routesSound_of_settings h hs.2⟩)
    fun _ _ _ hr ho hs => ⟨geometrySound_placeOutlet hs.1 hr ho, routesSound_placeOutlet hs.1 hs.2 hr ho⟩
  setRoute q s hs := ⟨geometrySound_handleSetRoute q s hs.1, routesSound_handleSetRoute q s hs.2⟩

end Sys2Proof.Machine

open Sys2Proof Sys2Proof.Machine

/-- Settles O10: both invariants depend on the settings alone, and each request that writes settings keeps them. -/
theorem stepKeepsGeometryAndRoutes : Obligations.StepKeepsGeometryAndRoutes :=
  ⟨fun _ _ hs hx => settingsClosed_geometrySound.step hs hx,
    fun _ _ hg hr hx => (settingsClosed_geometryAndRoutes.step ⟨hg, hr⟩ hx).2⟩
end

section
/-! SUPPORT. The arithmetic of leads, travel times and pulses (R61, R67 to R69). -/

namespace Sys2Proof.Machine

open Sys2Proof

/-! ## Leads -/

/-- Rounding to the nearest thousand, an exact half up, errs by at most a half. -/
theorem leadOf_bounds (latency speed : Nat) :
    2 * 1000 * leadOf latency speed ≤ 2 * (latency * speed) + 1000 ∧
    2 * (latency * speed) < 2 * 1000 * leadOf latency speed + 1000 := by
  unfold leadOf
  omega

/-- A belt travel of less than half a count gives no lead. -/
theorem leadOf_eq_zero {latency speed : Nat} (h : latency * speed < 500) : leadOf latency speed = 0 :=
  Nat.div_eq_of_lt (by omega)

/-! ## Travel times -/

/-- The travel time rounds the quotient up. -/
theorem travelTime_eq_ceilDiv {h v : Nat} (hv : 0 < v) : travelTime h v = h * 1000 ⌈/⌉ v := by
  rw [travelTime, Nat.ceilDiv_eq_add_pred_div, Nat.add_sub_assoc hv]

/-- A whole number of milliseconds is long enough exactly from the travel time on (R67). -/
theorem travelTime_le_iff {h v : Nat} (hv : 0 < v) (n : Nat) : travelTime h v ≤ n ↔ h * 1000 ≤ n * v := by
  rw [travelTime_eq_ceilDiv hv, ceilDiv_le_iff_le_mul hv, Nat.mul_comm v n]

/-! ## Pulses: the cases of R69 -/

section

variable {h v x lo hi : Nat}

/-- The speed at the computation is kept with every pulse. -/
theorem pulseOf_speed (h v x lo hi : Nat) : (pulseOf h v x lo hi).speed = v := by
  unfold pulseOf
  dsimp only
  split
  · rfl
  · split
    · rfl
    · split <;> rfl

theorem pulseOf_of_slow (hv : v < 10) :
    pulseOf h v x lo hi = { duration := hi, speed := v, clamp := .lowSpeed } := if_pos hv

theorem pulseOf_of_short (hv : 10 ≤ v) (hlo : travelTime h v + x < lo) :
    pulseOf h v x lo hi = { duration := lo, speed := v, clamp := .raised } := by
  rw [pulseOf, if_neg hv.not_gt]
  exact if_pos hlo

theorem pulseOf_of_long (hv : 10 ≤ v) (hle : lo ≤ hi) (hhi : hi < travelTime h v + x) :
    pulseOf h v x lo hi = { duration := hi, speed := v, clamp := .cut } := by
  rw [pulseOf, if_neg hv.not_gt]
  exact (if_neg (by omega)).trans (if_pos hhi)

theorem pulseOf_of_between (hv : 10 ≤ v) (hlo : lo ≤ travelTime h v + x) (hhi : travelTime h v + x ≤ hi) :
    pulseOf h v x lo hi = { duration := travelTime h v + x, speed := v, clamp := .none_ } := by
  rw [pulseOf, if_neg hv.not_gt]
  exact (if_neg hlo.not_gt).trans (if_neg hhi.not_gt)

end

end Sys2Proof.Machine

open Sys2Proof Sys2Proof.Machine

/-- Settles O26, by the rounding of the belt travel and its bounds. -/
theorem leadRoundsToTheNearestCount : Obligations.LeadRoundsToTheNearestCount := by
  intro latency speed
  obtain ⟨hlo, hhi⟩ := leadOf_bounds latency speed
  refine ⟨rfl, hlo, hhi, fun hl hv => ⟨Nat.mul_le_mul hl hv, leadOf_le hl hv⟩, ?_⟩
  rintro (rfl | rfl | ⟨hv, hl⟩)
  · exact leadOf_eq_zero (by omega)
  · exact leadOf_eq_zero (by omega)
  · have : latency * speed ≤ 166 * 3 := Nat.mul_le_mul hl hv
    exact leadOf_eq_zero (by omega)

/-- Settles O27: the travel time is a quotient rounded up, and a pulse falls in one of the four cases of its clamp. -/
theorem pulsesAreTravelTimesClamped : Obligations.PulsesAreTravelTimesClamped := by
  refine ⟨fun h v _ hv => ?_, fun h v x lo hi hle => ?_⟩
  · have hpos : 0 < v := by omega
    exact ⟨(travelTime_le_iff hpos _).1 le_rfl, fun n => (travelTime_le_iff hpos n).2⟩
  · refine ⟨pulseOf_speed h v x lo hi, fun hv => ?_, fun hv => ?_⟩
    · rw [pulseOf_of_slow hv]
      exact ⟨rfl, rfl⟩
    · rcases Nat.lt_or_ge (travelTime h v + x) lo with hshort | hshort
      · rw [pulseOf_of_short hv hshort]
        exact ⟨(max_eq_left ((min_le_right _ _).trans hshort.le)).symm, iff_of_true rfl hshort,
          iff_of_false nofun (by omega), iff_of_false nofun (by omega)⟩
      · rcases Nat.lt_or_ge hi (travelTime h v + x) with hlong | hlong
        · rw [pulseOf_of_long hv hle hlong, min_eq_left hlong.le, max_eq_right hle]
          exact ⟨rfl, iff_of_false nofun (by omega), iff_of_true rfl hlong, iff_of_false nofun (by omega)⟩
        · rw [pulseOf_of_between hv hshort hlong, min_eq_right hlong, max_eq_right hshort]
          exact ⟨rfl, iff_of_false nofun (by omega), iff_of_false nofun (by omega), iff_of_true rfl ⟨hshort, hlong⟩⟩
end

section
/-! SUPPORT. The requests that write a setting, taken and refused: SET GEOMETRY, SET SPEED CODES, SET AIR and SET PLACE
TIMING (R73, R77, R80 to R82, R169, R174). -/

namespace Sys2Proof.Machine

open Sys2Proof

variable {s : State} {rest : List Request} {tag : Byte}

/-- A handler that refuses its request leaves the taking and the answer. -/
theorem next_of_refused {a : StationId} {code : Byte} {args : List Byte} {status : Status} {u : State}
    (hu : u = respond { station := a, data := code :: tag :: args } status [] (s.unanswered rest)) :
    (.next u : Result) = .next (s.taken rest (answer a code tag status noResults)) := by
  rw [hu, respond_unanswered]
  rfl

/-! ## SET GEOMETRY -/

section

variable {q1 q2 e1 e2 m : Byte} (h : s.asked 0 [0x06, tag, q1, q2, e1, e2, m] rest)
include h

theorem exec_setGeometry : exec .setGeometry s =
    .next (handleSetGeometry { station := 0, data := [0x06, tag, q1, q2, e1, e2, m] } (s.unanswered rest)) :=
  congrArg Host.Outcome.next (takeRequest_asked (code := 0x06) h handleSetGeometry rfl fun _ => rfl)

theorem exec_setGeometry_moved (hl : s.line.state ≠ .standby) :
    exec .setGeometry s = .next (s.taken rest (answer 0 0x06 tag .wrongState noResults)) := by
  rw [exec_setGeometry h]
  exact next_of_refused (if_neg hl)

theorem exec_setGeometry_standby (hl : s.line.state = .standby) : exec .setGeometry s =
    if 50 ≤ q1.toNat * 256 + q2.toNat ∧ q1.toNat * 256 + q2.toNat ≤ 400 ∧ 700 ≤ e1.toNat * 256 + e2.toNat ∧
        e1.toNat * 256 + e2.toNat ≤ 3200 ∧ beyondOffsets (e1.toNat * 256 + e2.toNat) s = true ∧ 24 ≤ m.toNat ∧
        m.toNat ≤ 47 then
      .next (driveOutputs
        { s.taken rest (answer 0 0x06 tag .done noResults) with
          geometry := { identityOffset := q1.toNat * 256 + q2.toNat, beltEnd := some (e1.toNat * 256 + e2.toNat) }
          line := { s.line with slowMark := m.toNat } })
    else .next (s.taken rest (answer 0 0x06 tag .badValue noResults)) := by
  rw [exec_setGeometry h]
  split
  · next hc =>
    rw [handleSetGeometry, if_pos (by exact hl), if_pos (by exact hc), respond_unanswered]
    rfl
  · next hc => exact next_of_refused ((if_pos (by exact hl)).trans (if_neg hc))

end

/-! ## SET SPEED CODES -/

section

variable {run slow : Byte} (h : s.asked 0 [0x07, tag, run, slow] rest)
include h

theorem exec_setSpeedCodes : exec .setSpeedCodes s =
    if 1 ≤ run.toNat ∧ 1 ≤ slow.toNat ∧ slow.toNat ≤ run.toNat then
      .next (driveOutputs ((s.taken rest (answer 0 0x07 tag .done noResults)).onLine fun l =>
        { l with runCode := run.toNat, slowCode := slow.toNat }))
    else .next (s.taken rest (answer 0 0x07 tag .badValue noResults)) := by
  have hexec : exec .setSpeedCodes s = .next (handleSetSpeedCodes _ (s.unanswered rest)) :=
    congrArg Host.Outcome.next (takeRequest_asked (code := 0x07) h handleSetSpeedCodes rfl fun _ => rfl)
  rw [hexec]
  split
  · next hc =>
    rw [handleSetSpeedCodes, if_pos (by exact hc), respond_unanswered]
    rfl
  · next hc => exact next_of_refused (if_neg hc)

end

/-! ## SET AIR -/

theorem GrantScheme.ofCode_byte (b : Byte) : GrantScheme.ofCode b.toNat =
    if b = 0 ∨ b = 1 then some (if b = 0 then .fixed else .rotating) else none := by
  revert b
  decide

theorem slots_byte (a : Byte) : a.toNat = 1 ∨ a.toNat = 2 ↔ a = 1 ∨ a = 2 := by
  simp only [BitVec.toNat_eq]
  rfl

theorem handleSetAir_of_codes (q : Request) {scheme : GrantScheme} (ha : q.byte 2 = 1 ∨ q.byte 2 = 2)
    (hb : GrantScheme.ofCode (q.byte 3) = some scheme) (s : State) : handleSetAir q s =
      if s.air.slots < q.byte 2 then settleLine (examine (writeAir (q.byte 2) scheme (respond q .done [] s)))
      else writeAir (q.byte 2) scheme (respond q .done [] s) := by
  simp only [handleSetAir, hb, if_pos ha]

theorem handleSetAir_of_bad (q : Request)
    (hbad : ¬ ((q.byte 2 = 1 ∨ q.byte 2 = 2) ∧ (GrantScheme.ofCode (q.byte 3)).isSome)) (s : State) :
    handleSetAir q s = respond q .badValue [] s := by
  unfold handleSetAir
  dsimp only
  split
  · rfl
  · next hb => exact if_neg fun ha => hbad ⟨ha, by rw [hb]; rfl⟩

section

variable {a b : Byte} (h : s.asked 0 [0x08, tag, a, b] rest)
include h

theorem exec_setAir : exec .setAir s =
    .next (handleSetAir { station := 0, data := [0x08, tag, a, b] } (s.unanswered rest)) :=
  congrArg Host.Outcome.next (takeRequest_asked (code := 0x08) h handleSetAir rfl fun _ => rfl)

theorem exec_setAir_taken (ha : a = 1 ∨ a = 2) (hb : b = 0 ∨ b = 1) : exec .setAir s =
    .next (if s.air.slots < a.toNat then
        settleLine (examine (writeAir a.toNat (if b = 0 then .fixed else .rotating)
          (s.taken rest (answer 0 0x08 tag .done noResults))))
      else writeAir a.toNat (if b = 0 then .fixed else .rotating)
        (s.taken rest (answer 0 0x08 tag .done noResults))) := by
  have hscheme := (GrantScheme.ofCode_byte b).trans (if_pos hb)
  rw [exec_setAir h,
    handleSetAir_of_codes { station := 0, data := [0x08, tag, a, b] } ((slots_byte a).2 ha) hscheme,
    respond_unanswered]
  rfl

theorem exec_setAir_bad (hbad : ¬ ((a = 1 ∨ a = 2) ∧ (b = 0 ∨ b = 1))) :
    exec .setAir s = .next (s.taken rest (answer 0 0x08 tag .badValue noResults)) := by
  rw [exec_setAir h]
  refine next_of_refused (handleSetAir_of_bad { station := 0, data := [0x08, tag, a, b] }
    (fun hc => hbad ⟨(slots_byte a).1 hc.1, ?_⟩) _)
  by_contra hb
  have hnone := (GrantScheme.ofCode_byte b).trans (if_neg hb)
  have hsome : (GrantScheme.ofCode b.toNat).isSome = true := hc.2
  rw [hnone] at hsome
  cases hsome

end

/-! ## SET PLACE TIMING -/

theorem handleSetPlaceTiming_of_outlet (q : Request) {k : OutletId} (hk : outletOf (q.byte 2) = some k) (s : State) :
    handleSetPlaceTiming q s = (respond q .done [] s).onLink fun l =>
      { l with
        stage := some
          { outlet := k, latency := q.byte 3, extension := q.byte 4, minPulse := q.byte 5, maxPulse := q.word 6 } } := by
  simp only [handleSetPlaceTiming, hk]

theorem handleSetPlaceTiming_of_none (q : Request) (hk : outletOf (q.byte 2) = none) (s : State) :
    handleSetPlaceTiming q s = respond q .badValue [] s := by
  simp only [handleSetPlaceTiming, hk]

section

variable {n l x lo hi1 hi2 : Byte} (h : s.asked 0 [0x09, tag, n, l, x, lo, hi1, hi2] rest)
include h

theorem exec_setPlaceTiming : exec .setPlaceTiming s =
    .next (handleSetPlaceTiming { station := 0, data := [0x09, tag, n, l, x, lo, hi1, hi2] } (s.unanswered rest)) :=
  congrArg Host.Outcome.next (takeRequest_asked (code := 0x09) h handleSetPlaceTiming rfl fun _ => rfl)

theorem exec_setPlaceTiming_taken {k : OutletId} (hn : n = numberByte k) : exec .setPlaceTiming s =
    .next ((s.taken rest (answer 0 0x09 tag .done noResults)).onLink fun link =>
      { link with
        stage := some
          { outlet := k, latency := l.toNat, extension := x.toNat, minPulse := lo.toNat,
            maxPulse := hi1.toNat * 256 + hi2.toNat } }) := by
  have hk : outletOf n.toNat = some k := hn ▸ outletOf_numberByte k
  rw [exec_setPlaceTiming h,
    handleSetPlaceTiming_of_outlet { station := 0, data := [0x09, tag, n, l, x, lo, hi1, hi2] } hk,
    respond_unanswered]
  rfl

theorem exec_setPlaceTiming_bad (hn : ∀ k : OutletId, n ≠ numberByte k) :
    exec .setPlaceTiming s = .next (s.taken rest (answer 0 0x09 tag .badValue noResults)) := by
  rw [exec_setPlaceTiming h]
  exact next_of_refused (handleSetPlaceTiming_of_none { station := 0, data := [0x09, tag, n, l, x, lo, hi1, hi2] }
    (outletOf_of_ne hn) _)

end

end Sys2Proof.Machine

open Sys2Proof Sys2Proof.Machine

/-- Settles O52: each of the four requests by its checks. -/
theorem settingsAreWritten : Obligations.SettingsAreWritten := by
  refine ⟨fun tag q1 q2 e1 e2 m rest s h => ?_, fun tag run slow rest s h => ?_, fun tag a b rest s h => ?_,
    fun tag n l x lo hi1 hi2 rest s h => ?_⟩
  · refine ⟨exec_setGeometry_moved h, fun hl hbad => ?_, fun hl hgood => ?_⟩
    · rw [exec_setGeometry_standby h hl]
      refine if_neg ?_
      rintro ⟨hq, hq', he, he', hb, hm⟩
      exact hbad ⟨hq, hq', he, he', hm.1, hm.2, (beyondOffsets_iff _ s).1 hb⟩
    · obtain ⟨hq, hq', he, he', hm, hm', hb⟩ := hgood
      rw [exec_setGeometry_standby h hl]
      exact if_pos ⟨hq, hq', he, he', (beyondOffsets_iff _ s).2 hb, hm, hm'⟩
  · rw [exec_setSpeedCodes h]
    exact ⟨fun hgood => if_pos hgood, fun hbad => if_neg hbad⟩
  · exact ⟨fun ha hb => exec_setAir_taken h ha hb, exec_setAir_bad h⟩
  · exact ⟨fun _ hn => exec_setPlaceTiming_taken h hn, exec_setPlaceTiming_bad h⟩
end

section
/-! SUPPORT. SET OUTLET PLACE, taken and refused: its checks of state and of value, and what a placement leaves (R60 to
R63, R71, R72, R112 to R114, R123, R174). -/

namespace Sys2Proof.Machine

open Sys2Proof

variable {s : State} {k : OutletId}

/-! ## The checks -/

theorem OutletMode.ofCode_eq (n : Nat) (mode : OutletMode) : OutletMode.ofCode n = some mode ↔ n = mode.code := by
  unfold OutletMode.ofCode
  split <;> cases mode <;> simp_all [OutletMode.code]

theorem OutletMode.code_le (mode : OutletMode) : mode.code ≤ 1 := by
  cases mode <;> decide

/-- The checks of state: masked, no record targeting the outlet, no entry awaited, and the fill probe OFF for HANDOFF
(R113). -/
theorem placementState_iff (modeCode : Nat) : placementState k modeCode s = true ↔
    s.outlets[k].masked = true ∧ (∀ r ∈ s.track.records, r.target ≠ some k) ∧ s.outlets[k].queue = [] ∧
      (modeCode = 1 → s.channels[fillProbe k].state = .off) := by
  have hprobe : (OutletMode.ofCode modeCode != some .handoff) = true ↔ modeCode ≠ 1 := by
    rw [bne_iff_ne, ne_eq, OutletMode.ofCode_eq]
    rfl
  simp only [placementState, Bool.and_eq_true, Bool.or_eq_true, hprobe, List.all_eq_true, bne_iff_ne, beq_iff_eq,
    List.isEmpty_iff, and_assoc, imp_iff_not_or, ne_eq]

/-- A mode code and an owner code travel in one byte (R113). -/
theorem mode_owner_of_byte {m : Nat} {mode : OutletMode} {owner : StationId} (h : m = mode.code * 16 + owner.val) :
    m / 16 = mode.code ∧ m % 16 = owner.val := by
  have := owner.isLt
  omega

/-- The checks of value of a placement of outlet `k` by a request and a stage (R71, R72, R113, R174). -/
def ValuesAllow (k : OutletId) (q : Request) (p : PlacementStage) (s : State) : Prop :=
  q.byte 3 / 16 ≤ 1 ∧ q.byte 3 % 16 ≤ 6 ∧ 50 ≤ q.word 4 ∧ q.word 4 ≤ 1000 ∧
  p.outlet = k ∧ p.latency ≤ 250 ∧ p.extension ≤ 50 ∧ 10 ≤ p.minPulse ∧ p.minPulse ≤ 100 ∧
  20 ≤ p.maxPulse ∧ p.maxPulse ≤ 500 ∧ p.minPulse ≤ p.maxPulse ∧ 660 ≤ q.word 6 ∧ q.word 6 ≤ 3000 ∧
  (∀ (j : OutletId) (e : Nat), j < k → s.timing[j].offset = some e → e < q.word 6) ∧
  (∀ (j : OutletId) (e : Nat), k < j → s.timing[j].offset = some e → q.word 6 < e) ∧
  (∀ e, s.geometry.beltEnd = some e → q.word 6 + 100 ≤ e)

theorem valuesAllow_of_placementValues {q : Request} {x : Placement} (hx : placementValues k q s = some x) :
    s.link.stage = some x.stage ∧ ValuesAllow k q x.stage s := by
  obtain ⟨hmode, howner, hstage, hwindow, hoffset, hw, hw', hout, hrange, hallowed⟩ := placementValues_eq_some.1 hx
  rw [OutletMode.ofCode_eq] at hmode
  rw [stationOf_eq] at howner
  rw [timingInRange_iff] at hrange
  rw [← hoffset, offsetAllowed_iff] at hallowed
  rw [← hwindow] at hw hw'
  obtain ⟨hl, hx, hlo, hlo', hhi, hhi', hle⟩ := hrange
  refine ⟨hstage, hmode ▸ x.mode.code_le, ?_, hw, hw', hout, hl, hx, hlo, hlo', hhi, hhi', hle, hallowed⟩
  have := x.owner.isLt
  omega

theorem placementValues_of_valuesAllow {q : Request} {p : PlacementStage} {mode : OutletMode} {owner : StationId}
    (hp : s.link.stage = some p) (hv : ValuesAllow k q p s) (hm : q.byte 3 = mode.code * 16 + owner.val) :
    placementValues k q s =
      some { mode := mode, owner := owner, confirmWindow := q.word 4, offset := q.word 6, stage := p } := by
  obtain ⟨hmode, howner⟩ := mode_owner_of_byte hm
  obtain ⟨-, -, hw, hw', hout, hl, hx, hlo, hlo', hhi, hhi', hle, hallowed⟩ := hv
  exact placementValues_eq_some.2 ⟨(OutletMode.ofCode_eq _ _).2 hmode, (stationOf_eq _ _).2 howner, hp, rfl, rfl, hw,
    hw', hout, (timingInRange_iff p).2 ⟨hl, hx, hlo, hlo', hhi, hhi', hle⟩, (offsetAllowed_iff _).2 hallowed⟩

/-! ## The handler -/

section

variable (q : Request)

theorem handleSetOutletPlace_of_none (hk : outletOf (q.byte 2) = none) (s : State) :
    handleSetOutletPlace q s = respond q .badValue [] s := by
  simp only [handleSetOutletPlace, hk]

variable (hk : outletOf (q.byte 2) = some k)
include hk

theorem handleSetOutletPlace_of_sender (ha : q.station ≠ 0) (s : State) :
    handleSetOutletPlace q s = respond q .notYours [] s := by
  simp only [handleSetOutletPlace, hk, if_pos ha]

theorem handleSetOutletPlace_of_state (ha : q.station = 0) (hs : ¬ placementState k (q.byte 3 / 16) s = true) :
    handleSetOutletPlace q s = respond q .wrongState [] s := by
  simp [handleSetOutletPlace, hk, ha, hs]

theorem handleSetOutletPlace_of_values (ha : q.station = 0) (hs : placementState k (q.byte 3 / 16) s = true)
    (hv : placementValues k q s = none) : handleSetOutletPlace q s = respond q .badValue [] s := by
  simp [handleSetOutletPlace, hk, ha, hs, hv]

theorem handleSetOutletPlace_of_taken {p : Placement} (ha : q.station = 0)
    (hs : placementState k (q.byte 3 / 16) s = true) (hv : placementValues k q s = some p) :
    handleSetOutletPlace q s = placeOutlet k p (respond q .done [] s) := by
  simp [handleSetOutletPlace, hk, ha, hs, hv]

end

/-! ## The state a placement sets (R114) -/

section

variable {before : OutletState} {modeBefore : OutletMode}

theorem enterPlaced_of_kept (h : before = .jammed ∨ (before ≠ .unconfigured ∧ s.outlets[k].mode = modeBefore)) :
    enterPlaced k before modeBefore s = s := by
  rcases h with rfl | ⟨hu, hm⟩
  · rfl
  · cases before with
    | unconfigured => exact absurd rfl hu
    | jammed => rfl
    | opened | full | swap | held => exact if_pos hm

theorem enterPlaced_of_unconfigured (h : before = .unconfigured) :
    enterPlaced k before modeBefore s = enterByMode k s := by
  rw [h]
  rfl

theorem enterPlaced_of_changed (hj : before ≠ .jammed) (hu : before ≠ .unconfigured)
    (hm : s.outlets[k].mode ≠ modeBefore) :
    enterPlaced k before modeBefore s = enterByMode k (s.onOutlet k fun o => { o with consecutive := 0 }) := by
  cases before with
  | unconfigured => exact absurd rfl hu
  | jammed => exact absurd rfl hj
  | opened | full | swap | held => exact if_neg hm

end

/-- The stage may be emptied before the routes of a new owner are reset. -/
theorem placed_eq (k : OutletId) (p : Placement) (s : State) : placed k p s =
    if p.owner = s.outlets[k].owner then (located k p s).onLink fun l => { l with stage := none }
    else resetForeignRoutes k p.owner ((located k p s).onLink fun l => { l with stage := none }) := by
  unfold placed rerouted
  split
  · next h => rw [if_pos h.symm]
  · next h =>
    rw [if_neg (Ne.symm h)]
    rfl

theorem placed_mode (p : Placement) (s : State) : (placed k p s).outlets[k].mode = p.mode := by
  rw [placed, rerouted_eq, located]
  simp

/-! ## The command -/

section

variable {a : StationId} {tag n m w1 w2 d1 d2 : Byte} {rest : List Request}
  (h : s.asked a [0x0A, tag, n, m, w1, w2, d1, d2] rest)
include h

theorem exec_setOutletPlace : exec .setOutletPlace s = .next
    (handleSetOutletPlace { station := a, data := [0x0A, tag, n, m, w1, w2, d1, d2] } (s.unanswered rest)) :=
  congrArg Host.Outcome.next (takeRequest_asked (code := 0x0A) h handleSetOutletPlace rfl nofun)

end

end Sys2Proof.Machine

open Sys2Proof Sys2Proof.Machine

/-- Settles O53: the checks in their order, and a taken placement by the state of the outlet before it. -/
theorem placementConfiguresTheOutlet : Obligations.PlacementConfiguresTheOutlet := by
  intro a tag n m w1 w2 d1 d2 rest s h
  let q : Request := { station := a, data := [0x0A, tag, n, m, w1, w2, d1, d2] }
  rw [exec_setOutletPlace h]
  refine ⟨fun hn => next_of_refused (handleSetOutletPlace_of_none q (outletOf_of_ne hn) _), ?_⟩
  rintro k rfl
  have hk : outletOf (q.byte 2) = some k := outletOf_numberByte k
  refine ⟨fun ha => next_of_refused (handleSetOutletPlace_of_sender q hk ha _), fun ha hs => ?_, fun ha hs hv => ?_,
    fun ha hs p hp hv mode owner hm => ?_⟩
  · exact next_of_refused
      (handleSetOutletPlace_of_state q hk ha fun hstate => hs ((placementState_iff (m.toNat / 16)).1 hstate))
  · have hstate := (placementState_iff (s := s.unanswered rest) (m.toNat / 16)).2 hs
    refine next_of_refused (handleSetOutletPlace_of_values q hk ha hstate (Option.eq_none_iff_forall_ne_some.2 ?_))
    intro x hx
    obtain ⟨hstage, hvalues⟩ := valuesAllow_of_placementValues hx
    exact hv x.stage hstage hvalues
  · subst ha
    intro v w
    have hstate := (placementState_iff (s := s.unanswered rest) (m.toNat / 16)).2 hs
    have hvalues := placementValues_of_valuesAllow (q := q) (s := s.unanswered rest) hp hv hm
    have hplaced : placed k _ (s.taken rest (answer 0 0x0A tag .done noResults)) = w := placed_eq k
      { mode := mode, owner := owner, confirmWindow := q.word 4, offset := q.word 6, stage := p } _
    have hkept : w.outlets[k].mode = mode := hplaced ▸ placed_mode _ _
    have hexec : handleSetOutletPlace q (s.unanswered rest) =
        enterPlaced k s.outlets[k].state s.outlets[k].mode w := by
      rw [handleSetOutletPlace_of_taken q hk rfl hstate hvalues, respond_unanswered, placeOutlet_eq, ← hplaced]
      rfl
    rw [hexec]
    refine ⟨fun hkeep => ?_, fun hu => ?_, fun hj hu hchange => ?_⟩
    · rw [enterPlaced_of_kept (hkeep.imp_right fun ⟨hu, hsame⟩ => ⟨hu, hkept.trans hsame⟩)]
    · rw [enterPlaced_of_unconfigured hu]
    · rw [enterPlaced_of_changed hj hu (hkept ▸ hchange)]
end

section
/-! SUPPORT. The soundness of one outlet, and the rules by which an outlet enters a state (R94, R103, R110, R114). -/

namespace Sys2Proof.Machine

open Sys2Proof

variable {s t : State} {k : OutletId}

/-! ## One outlet -/

/-- The crate's counts and the count of consecutive unconfirmed items are in range (R94, R103). -/
structure Outlet.Counted (o : Outlet) : Prop where
  base_pos : 1 ≤ o.baseCount
  base_le : o.baseCount ≤ 250
  current_le : o.currentCount ≤ o.baseCount
  consecutive_le : o.consecutive ≤ 3

/-- The state is one of the mode, and an OPEN CRATE outlet has a place left (R94, R103, R110). -/
structure Outlet.Standing (o : Outlet) : Prop where
  place_left : o.mode = .crate → o.state = .opened → 0 < o.currentCount
  handoff : o.mode = .handoff → o.state = .unconfigured ∨ o.state = .opened ∨ o.state = .jammed

/-- One outlet's part in `OutletsSound`, its offset given. -/
structure Outlet.Sound (o : Outlet) (offset : Option Nat) : Prop extends o.Counted, o.Standing where
  unplaced : o.state = .unconfigured ↔ offset = none

/-- `OutletsSound` is the soundness of each outlet. -/
theorem outletsSound_iff (s : State) : OutletsSound s ↔ ∀ k : OutletId, s.outlets[k].Sound s.timing[k].offset :=
  forall_congr' fun _ =>
    ⟨fun ⟨h1, h2, h3, h4, h5, h6, h7⟩ => ⟨⟨h1, h2, h3, h7⟩, ⟨h4, h5⟩, h6⟩,
      fun ⟨⟨h1, h2, h3, h7⟩, ⟨h4, h5⟩, h6⟩ => ⟨h1, h2, h3, h4, h5, h6, h7⟩⟩

theorem OutletsSound.get (h : OutletsSound s) (k : OutletId) : s.outlets[k].Sound s.timing[k].offset :=
  (outletsSound_iff s).1 h k

/-- Soundness reads neither the confirm queues nor of the timings anything but the offsets. -/
theorem OutletsSound.agree (h : OutletsSound s) (ht : ∀ k : OutletId, t.timing[k].offset = s.timing[k].offset)
    (ho : ∀ k : OutletId, t.outlets[k] = { s.outlets[k] with queue := t.outlets[k].queue }) : OutletsSound t := by
  refine (outletsSound_iff t).2 fun k => ?_
  rw [ht k, ho k]
  exact { h.get k with }

theorem OutletsSound.elsewhere (h : OutletsSound s) (ht : t.timing = s.timing) (ho : t.outlets = s.outlets) :
    OutletsSound t := h.agree (fun k => by rw [ht]) (fun k => by rw [ho])

/-- What an advance and the end of an event may touch of the outlets leaves them sound. -/
theorem OutletsSound.framed (h : OutletsSound s) (hf : AdvanceFrame s t) : OutletsSound t :=
  h.agree (fun k => by rw [hf.timing k]) hf.outlets

theorem OutletsSound.diverted (h : OutletsSound s) (hd : DiversionFrame s t) : OutletsSound t :=
  h.framed ((AdvanceFrame.refl s).diversion hd)

/-- The outputs, notices, cuts, admissions, evaluations and retirements leave the outlets sound. -/
theorem outletsSound_beltClosed : BeltClosed OutletsSound where
  notice _ h := h.elsewhere rfl rfl
  line _ h := h.elsewhere rfl rfl
  ident _ h := h.elsewhere rfl rfl
  cut k h := h.framed ((AdvanceFrame.refl _).cutPulse k)
  admission _ h := h.elsewhere rfl rfl
  append _ _ _ h := h.elsewhere rfl rfl
  evaluate tag h := h.diverted (evaluateRecord_diversion _ tag)
  retire hr h := h.framed ((advanceFrame_beltClosed _).retire hr (.refl _))
  balance _ _ h := h.elsewhere rfl rfl

theorem OutletsSound.raiseNotice (n : Notice) (h : OutletsSound s) : OutletsSound (raiseNotice n s) :=
  outletsSound_beltClosed.raiseNotice n h

theorem OutletsSound.reportLoss (k : OutletId) (before : Bool) (h : OutletsSound s) :
    OutletsSound (reportLoss present k before s) := h.diverted (reportLoss_diversion present_diversion k before s)

/-! ## One outlet changed -/

/-- A change of an outlet that leaves it sound. -/
theorem OutletsSound.onOutlet {f : Outlet → Outlet} (h : OutletsSound s)
    (hf : (f s.outlets[k]).Sound s.timing[k].offset) : OutletsSound (s.onOutlet k f) := by
  refine (outletsSound_iff _).2 fun j => ?_
  rw [State.onOutlet_get]
  split
  · next hj => subst hj; exact hf
  · exact h.get j

/-- Outlet `k` has been placed and its counts are in range, and every other outlet is sound: outlet `k` may enter a
state. -/
structure MayEnter (k : OutletId) (s : State) : Prop where
  counted : s.outlets[k].Counted
  placed : s.timing[k].offset ≠ none
  others : ∀ j : OutletId, j ≠ k → s.outlets[j].Sound s.timing[j].offset

theorem OutletsSound.mayEnter (h : OutletsSound s) (hu : s.outlets[k].state ≠ .unconfigured) : MayEnter k s :=
  ⟨(h.get k).toCounted, fun hn => hu ((h.get k).unplaced.2 hn), fun j _ => h.get j⟩

namespace MayEnter

theorem change {f : Outlet → Outlet} (h : MayEnter k s) (hf : (f s.outlets[k]).Counted) :
    MayEnter k (s.onOutlet k f) where
  counted := by rw [State.onOutlet_get, if_pos rfl]; exact hf
  placed := h.placed
  others j hj := by rw [State.onOutlet_get, if_neg hj]; exact h.others j hj

/-- Once the outlet's state is one of its mode, every outlet is sound. -/
theorem sound (h : MayEnter k s) (hst : s.outlets[k].Standing) (hu : s.outlets[k].state ≠ .unconfigured) :
    OutletsSound s := by
  refine (outletsSound_iff _).2 fun j => ?_
  by_cases hj : j = k
  · subst hj
    exact ⟨h.counted, hst, iff_of_false hu h.placed⟩
  · exact h.others j hj

theorem enter {f : Outlet → Outlet} (h : MayEnter k s) (hc : (f s.outlets[k]).Counted)
    (hst : (f s.outlets[k]).Standing) (hu : (f s.outlets[k]).state ≠ .unconfigured) :
    OutletsSound (s.onOutlet k f) := by
  have hk : (s.onOutlet k f).outlets[k] = f s.outlets[k] := by rw [State.onOutlet_get, if_pos rfl]
  exact (h.change hc).sound (hk ▸ hst) (hk ▸ hu)

theorem opened (h : MayEnter k s) (hp : s.outlets[k].mode = .crate → 0 < s.outlets[k].currentCount) :
    OutletsSound (s.onOutlet k fun o => { o with state := .opened }) :=
  h.enter { h.counted with } ⟨fun hm _ => hp hm, fun _ => .inr (.inl rfl)⟩ nofun

/-- A CRATE outlet may enter any state but OPEN and UNCONFIGURED. -/
theorem closed {st : OutletState} (h : MayEnter k s) (hm : s.outlets[k].mode = .crate) (ho : st ≠ .opened)
    (hu : st ≠ .unconfigured) : OutletsSound (s.onOutlet k fun o => { o with state := st }) :=
  h.enter { h.counted with } ⟨fun _ hst => absurd hst ho, fun hh => absurd (hm.symm.trans hh) nofun⟩ hu

theorem enterFull (h : MayEnter k s) (hm : s.outlets[k].mode = .crate) (before : Bool) :
    OutletsSound (enterFull k before s) := by
  refine OutletsSound.reportLoss k before (OutletsSound.raiseNotice _ (h.enter ?_ ⟨nofun, fun hh => ?_⟩ nofun))
  · exact { h.counted with }
  · exact absurd (hm.symm.trans hh) nofun

theorem enterJam (h : MayEnter k s) (before : Bool) : OutletsSound (enterJam k before s) :=
  OutletsSound.reportLoss k before (OutletsSound.raiseNotice _
    (h.enter { h.counted with } ⟨nofun, fun _ => .inr (.inr rfl)⟩ nofun))

/-- The state an outlet takes by its mode is sound whatever state it had (R109, R114). -/
theorem enterByMode (h : MayEnter k s) : OutletsSound (enterByMode k s) := by
  unfold Machine.enterByMode enterByCrate
  split
  · next hm =>
    split
    · split
      · exact h.enterFull hm false
      · next hc => exact h.opened fun _ => Nat.pos_of_ne_zero hc
    · exact h.closed (st := .swap) hm nofun nofun
  · next hm => exact h.opened fun hh => absurd (hm.symm.trans hh) nofun

/-- A fresh crate has a place left, since the base count is above 0 (R106, R107). -/
theorem freshCrate (h : MayEnter k s) : OutletsSound (freshCrate k s) := by
  have h1 : MayEnter k (s.onOutlet k fun o => { o with currentCount := o.baseCount }) :=
    h.change { h.counted with current_le := le_rfl }
  unfold Machine.freshCrate openOrJam
  split
  · exact h1.enterJam _
  · refine h1.opened fun _ => ?_
    rw [State.onOutlet_get, if_pos rfl]
    exact h.counted.base_pos

end MayEnter

namespace OutletsSound

theorem onTrack (f : Track → Track) (h : OutletsSound s) : OutletsSound (s.onTrack f) := h.elsewhere rfl rfl

/-! ## Confirmations, timeouts and crates -/

/-- A place less in a crate: the last of an OPEN one makes it FULL (R100, R103). -/
theorem takePlace (h : OutletsSound s) (hm : s.outlets[k].mode = .crate) (hu : s.outlets[k].state ≠ .unconfigured)
    (before : Bool) : OutletsSound (takePlace k before s) := by
  have hk := h.get k
  have hc : ({ s.outlets[k] with currentCount := s.outlets[k].currentCount - 1 } : Outlet).Counted :=
    { hk.toCounted with current_le := (Nat.sub_le _ _).trans hk.current_le }
  unfold Machine.takePlace
  simp only [State.onOutlet_get, if_true]
  split
  · refine ((h.mayEnter hu).change hc).enterFull ?_ before
    rw [State.onOutlet_get, if_pos rfl]
    exact hm
  · next hn =>
    refine (h.mayEnter hu).enter hc ⟨fun _ ho => ?_, hk.handoff⟩ hu
    exact Nat.pos_of_ne_zero fun h0 => hn ⟨h0, ho⟩

theorem crateEffect (h : OutletsSound s) (hm : s.outlets[k].mode = .crate) (hu : s.outlets[k].state ≠ .unconfigured)
    (before : Bool) : OutletsSound (crateEffect k before s) := by
  unfold Machine.crateEffect
  dsimp only
  split
  · exact h.onOutlet { h.get k with }
  · split
    · exact h.onOutlet { h.get k with }
    · exact h.takePlace hm hu before

theorem strayEvent (h : OutletsSound s) (hu : s.outlets[k].state ≠ .unconfigured) (before : Bool) :
    OutletsSound (strayEvent k before s) := by
  have h1 : OutletsSound (s.onOutlet k fun o => { o with stray := o.stray + 1 }) := h.onOutlet { h.get k with }
  unfold Machine.strayEvent
  dsimp only
  split
  · next hc =>
    refine h1.takePlace ?_ ?_ before <;> rw [State.onOutlet_get, if_pos rfl]
    · exact hc.1
    · exact hu
  · exact h1

theorem removeSorted (h : OutletsSound s) (rest : List ConfirmEntry) : OutletsSound (removeSorted k rest s) := by
  refine OutletsSound.onTrack _ (h.onOutlet ?_)
  exact { h.get k with consecutive_le := Nat.zero_le 3 }

theorem confirmationEvent (h : OutletsSound s) (k : OutletId) (before : Bool) :
    OutletsSound (confirmationEvent k before s) := by
  unfold Machine.confirmationEvent
  dsimp only
  split
  · exact h
  · next hu =>
    split
    · exact h.strayEvent hu before
    · next e rest _ =>
      split
      · next hm =>
        exact (h.removeSorted rest).crateEffect (by rwa [removeSorted_get]) (by rwa [removeSorted_get]) before
      · exact h.removeSorted rest

theorem timeoutHead (h : OutletsSound s) (k : OutletId) : OutletsSound (timeoutHead k s) := by
  have h1 : OutletsSound ((s.onOutlet k fun o =>
      { o with
        queue := o.queue.tail
        unconfirmed := o.unconfirmed + 1
        consecutive := min (o.consecutive + 1) 3 }).onTrack fun t => { t with unconfirmed := t.unconfirmed + 1 }) := by
    refine OutletsSound.onTrack _ (h.onOutlet ?_)
    exact { h.get k with consecutive_le := min_le_right _ _ }
  unfold Machine.timeoutHead
  dsimp only
  split
  · next hj =>
    refine (h1.mayEnter ?_).enterJam _
    rw [State.onTrack_outlets, State.onOutlet_get, if_pos rfl]
    rw [hj.2]
    exact nofun
  · exact h1

theorem removeCrate (h : OutletsSound s) (k : OutletId) : OutletsSound (removeCrate k s) := by
  unfold Machine.removeCrate
  dsimp only
  split
  · next hc =>
    obtain ⟨hm, hst⟩ := hc
    have hu : s.outlets[k].state ≠ .unconfigured := by
      rcases hst with hst | hst | hst <;> rw [hst] <;> simp
    have h1 := (h.mayEnter hu).closed (st := .swap) hm nofun nofun
    exact outletsSound_beltClosed.driveOutputs (h1.reportLoss k _)
  · exact h

theorem placeCrate (h : OutletsSound s) (k : OutletId) : OutletsSound (placeCrate k s) := by
  unfold Machine.placeCrate
  dsimp only
  split
  · next hc =>
    obtain ⟨hm, hst⟩ := hc
    have hk : MayEnter k s := h.mayEnter (by rw [hst]; exact nofun)
    split
    · exact hk.freshCrate
    · exact hk.closed (st := .held) hm nofun nofun
  · exact h

end OutletsSound

end Sys2Proof.Machine
end

section
/-! SUPPORT. The edges of the gate inputs, the Identity Port and the channels leave the outlets sound. -/

namespace Sys2Proof.Machine

open Sys2Proof

variable {s t : State}

namespace OutletsSound

/-! ## Changes of other blocks -/

theorem onSensing (f : Sensing → Sensing) (h : OutletsSound s) : OutletsSound (s.onSensing f) := h.elsewhere rfl rfl

theorem onAdmission (f : Admission → Admission) (h : OutletsSound s) : OutletsSound (s.onAdmission f) :=
  h.elsewhere rfl rfl

theorem onAir (f : Air → Air) (h : OutletsSound s) : OutletsSound (s.onAir f) := h.elsewhere rfl rfl

theorem onChannel (c : ChannelId) (f : Channel → Channel) (h : OutletsSound s) : OutletsSound (s.onChannel c f) :=
  h.elsewhere rfl rfl

theorem onBalance (c : Fin 6) (f : Balance → Balance) (h : OutletsSound s) : OutletsSound (s.onBalance c f) :=
  h.elsewhere rfl rfl

theorem onLine (f : Line → Line) (h : OutletsSound s) : OutletsSound (s.onLine f) := h.elsewhere rfl rfl

theorem onLink (f : Link → Link) (h : OutletsSound s) : OutletsSound (s.onLink f) := h.elsewhere rfl rfl

theorem respond (q : Request) (status : Status) (results : List Byte) (h : OutletsSound s) :
    OutletsSound (respond q status results s) := h.elsewhere rfl rfl

theorem driveOutputs (h : OutletsSound s) : OutletsSound (driveOutputs s) := outletsSound_beltClosed.driveOutputs h

theorem settleLine (h : OutletsSound s) : OutletsSound (settleLine s) := outletsSound_beltClosed.settleLine h

theorem moveLine (new : LineState) (cause : LineCause) (h : OutletsSound s) : OutletsSound (moveLine new cause s) :=
  outletsSound_beltClosed.moveLine new cause h

theorem cutPulses (h : OutletsSound s) : OutletsSound (cutPulses s) := outletsSound_beltClosed.cutPulses h

theorem examine (h : OutletsSound s) : OutletsSound (examine s) := h.diverted (examine_diversion s)

theorem examineHead (h : OutletsSound s) : OutletsSound (examineHead s) := outletsSound_beltClosed.examineHead h

theorem inEitherOrder {first second : State → State} (hf : ∀ {s}, OutletsSound s → OutletsSound (first s))
    (hg : ∀ {s}, OutletsSound s → OutletsSound (second s)) (h : OutletsSound s) :
    OutletsSound (inEitherOrder first second s) := by
  have h1 : OutletsSound (s.onDraws (· + 1)) := h.elsewhere rfl rfl
  unfold Machine.inEitherOrder inOrder
  split
  · exact hf (hg h1)
  · exact hg (hf h1)

/-! ## The edges of the gate inputs -/

theorem takeEdge {input : GateInput} {rising : Bool} {e : FilteredEdge} (he : takeEdge input rising s = some (e, t))
    (h : OutletsSound s) : OutletsSound t := by
  obtain ⟨-, -, others, -, rfl⟩ := takeEdge_some he
  exact h.elsewhere rfl rfl

theorem takeLeadingEdge (h : OutletsSound s) : OutletsSound (takeLeadingEdge s) := by
  unfold Machine.takeLeadingEdge leadingEdge
  split
  · exact h
  · next he =>
    have h1 := h.takeEdge he
    split
    · exact driveOutputs (h1.onAdmission _)
    · exact outletsSound_beltClosed.handOnOverflow _ _ (h1.onAdmission _)

theorem takeTrailingEdge (h : OutletsSound s) : OutletsSound (takeTrailingEdge s) := by
  unfold Machine.takeTrailingEdge trailingEdge
  split
  · exact h
  · next he =>
    have h1 := h.takeEdge he
    dsimp only
    split
    · exact settleLine (examineHead (h1.onAdmission _))
    · exact h1.onAdmission _

theorem takeChuteRising (h : OutletsSound s) (k : OutletId) : OutletsSound (takeChuteRising k s) := by
  unfold Machine.takeChuteRising
  split
  · exact h
  · next he =>
    split
    · exact ((h.takeEdge he).confirmationEvent k _).settleLine
    · exact h.takeEdge he

theorem takeReadyRising (h : OutletsSound s) (k : OutletId) : OutletsSound (takeReadyRising k s) := by
  unfold Machine.takeReadyRising
  split
  · exact h
  · next he => exact h.takeEdge he

theorem takeReadyFalling (h : OutletsSound s) (k : OutletId) : OutletsSound (takeReadyFalling k s) := by
  unfold Machine.takeReadyFalling
  split
  · exact h
  · next he =>
    split
    · exact h.takeEdge he
    · exact (((h.takeEdge he).confirmationEvent k _).reportLoss k _).settleLine

theorem takeCrateFalling (h : OutletsSound s) (k : OutletId) : OutletsSound (takeCrateFalling k s) := by
  unfold Machine.takeCrateFalling
  split
  · exact h
  · next he => exact (h.takeEdge he).removeCrate k

theorem takeCrateRising (h : OutletsSound s) (k : OutletId) : OutletsSound (takeCrateRising k s) := by
  unfold Machine.takeCrateRising
  split
  · exact h
  · next he => exact (h.takeEdge he).placeCrate k

theorem handOldest (h : OutletsSound s) : OutletsSound (handOldest s) := by
  unfold Machine.handOldest
  split
  · exact h
  · split
    · exact h.takeLeadingEdge
    · exact h.takeTrailingEdge
    · exact h.takeChuteRising _
    · exact h.onSensing _
    · exact h.takeCrateRising _
    · exact h.takeCrateFalling _
    · exact h.takeReadyRising _
    · exact h.takeReadyFalling _

theorem handEdges (n : Nat) (h : OutletsSound s) : OutletsSound (handEdges n s) := by
  induction n generalizing s with
  | zero => exact h
  | succ n ih => exact ih h.handOldest

/-! ## The Identity Port -/

theorem matchRecord (capture : CaptureNumber) (identity : Identity) (h : OutletsSound s) :
    OutletsSound (matchRecord capture identity s) := by
  have h1 : OutletsSound (attachRecord capture identity s) := h.elsewhere rfl rfl
  unfold Machine.matchRecord
  split
  · exact h.onAdmission _
  · split
    · exact h.onAdmission _
    · dsimp only
      split
      · exact h1.examineHead.settleLine
      · exact h1

theorem takeByte (value : Byte) (framingError : Bool) (h : OutletsSound s) :
    OutletsSound (takeByte value framingError s) := by
  unfold Machine.takeByte
  split
  · split
    · exact h.elsewhere rfl rfl
    · exact h
  · split
    · exact h.elsewhere rfl rfl
    · split
      · exact h.elsewhere rfl rfl
      · unfold completeRecord
        split
        · exact h.elsewhere rfl rfl
        · exact matchRecord _ _ (h.elsewhere rfl rfl)

/-! ## Channels -/

theorem copyDetected (c : ChannelId) (detected : Bool) (h : OutletsSound s) :
    OutletsSound (copyDetected c detected s) := by
  unfold Machine.copyDetected
  split
  · exact h.onLine _
  · split
    · exact h.onLine _
    · exact h

/-- A fill probe fills an OPEN CRATE outlet (R104, R139). -/
theorem handDetection (c : ChannelId) (h : OutletsSound s) : OutletsSound (handDetection c s) := by
  have h1 := h.copyDetected c true
  unfold Machine.handDetection
  dsimp only
  split
  · split
    · next ho => exact (h1.mayEnter (by rw [ho.2]; exact nofun)).enterFull ho.1 _
    · exact h1
  · split
    · exact h1.onAir _
    · exact h1

theorem handRelease (c : ChannelId) (h : OutletsSound s) : OutletsSound (handRelease c s) := by
  have h1 := h.copyDetected c false
  unfold Machine.handRelease
  dsimp only
  split
  · exact (h1.onAir _).examine
  · exact h1

theorem detection (c : ChannelId) (h : OutletsSound s) : OutletsSound (detection c s) := by
  have h1 := (h.handDetection c).onChannel c fun ch => { ch with detectionCount := ch.detectionCount + 1 }
  unfold Machine.detection
  dsimp only
  split
  · exact h1.raiseNotice _
  · exact h1.raiseNotice _
  · exact h1
  · exact h1

theorem releaseVerdict (c : ChannelId) (h : OutletsSound s) : OutletsSound (releaseVerdict c s) := by
  have h1 := h.handRelease c
  unfold Machine.releaseVerdict
  dsimp only
  split
  · exact h1.raiseNotice _
  · exact h1.raiseNotice _
  · exact h1
  · exact h1

theorem firstVerdict (c : ChannelId) (shown : Bool) (h : OutletsSound s) : OutletsSound (firstVerdict c shown s) := by
  have h1 := h.onChannel c fun ch => { ch with lastVerdict := verdictOf shown }
  unfold Machine.firstVerdict
  dsimp only
  split
  · split
    · exact (h1.onChannel c _).detection c
    · exact h1.onChannel c _
  · exact (h1.onChannel c _).raiseNotice _
  · split
    · exact (h1.onChannel c _).raiseNotice _
    · exact h1.onChannel c _

theorem sampleFirst (c : ChannelId) (shown : Bool) (h : OutletsSound s) : OutletsSound (sampleFirst c shown s) := by
  unfold Machine.sampleFirst
  dsimp only
  split
  · exact h.firstVerdict c _
  · exact h.onChannel c _

theorem sampleWatching (c : ChannelId) (shown : Bool) (h : OutletsSound s) :
    OutletsSound (sampleWatching c shown s) := by
  unfold Machine.sampleWatching
  dsimp only
  split
  · exact h.onChannel c _
  · split
    · exact h.onChannel c _
    · split
      · exact (h.onChannel c _).detection c
      · exact (h.onChannel c _).releaseVerdict c

end OutletsSound

end Sys2Proof.Machine
end

section
/-! SUPPORT. Every request leaves the outlets sound. -/

namespace Sys2Proof.Machine

open Sys2Proof

variable {s t : State} {k : OutletId}

/-! ## SET OUTLET PLACE -/

theorem placed_get (p : Placement) (s : State) (j : OutletId) : (placed k p s).outlets[j] =
    if j = k then { s.outlets[j] with mode := p.mode, owner := p.owner, confirmWindow := p.confirmWindow }
      else s.outlets[j] := by
  have ho : (placed k p s).outlets = (located k p s).outlets := by rw [placed, rerouted_eq]; rfl
  rw [ho, located, State.onOutlet_get]
  rfl

theorem placed_offset (p : Placement) (s : State) (j : OutletId) :
    (placed k p s).timing[j].offset = if j = k then some p.offset else s.timing[j].offset := by
  rw [placed, rerouted_eq]
  exact writeTiming_offset ..

/-- A placement writes outlet `k`'s offset and none of its counts, so it may enter a state (R114). -/
theorem OutletsSound.mayEnter_placed (h : OutletsSound s) (p : Placement) : MayEnter k (placed k p s) where
  counted := by rw [placed_get, if_pos rfl]; exact { (h.get k).toCounted with }
  placed := by rw [placed_offset, if_pos rfl]; exact nofun
  others j hj := by rw [placed_get, placed_offset, if_neg hj, if_neg hj]; exact h.get j

/-- A placement that keeps the outlet's state keeps it one of the mode: a JAMMED outlet may be of either mode, and
another keeps its mode (R114). -/
theorem OutletsSound.placeOutlet (h : OutletsSound s) (k : OutletId) (p : Placement) :
    OutletsSound (placeOutlet k p s) := by
  have hp : MayEnter k (placed k p s) := h.mayEnter_placed p
  have hget : (placed k p s).outlets[k] =
      { s.outlets[k] with mode := p.mode, owner := p.owner, confirmWindow := p.confirmWindow } := by
    rw [placed_get, if_pos rfl]
  rw [placeOutlet_eq]
  by_cases hj : s.outlets[k].state = .jammed
  · rw [enterPlaced_of_kept (.inl hj)]
    refine hp.sound ?_ ?_ <;> rw [hget]
    · exact ⟨fun _ ho => absurd (hj.symm.trans ho) nofun, fun _ => .inr (.inr hj)⟩
    · exact fun hu => absurd (hj.symm.trans hu) nofun
  by_cases hu : s.outlets[k].state = .unconfigured
  · rw [enterPlaced_of_unconfigured hu]
    exact hp.enterByMode
  by_cases hm : (placed k p s).outlets[k].mode = s.outlets[k].mode
  · rw [enterPlaced_of_kept (.inr ⟨hu, hm⟩)]
    rw [placed_mode] at hm
    refine hp.sound ?_ ?_ <;> rw [hget]
    · exact ⟨fun hc => (h.get k).place_left (hm.symm.trans hc), fun hh => (h.get k).handoff (hm.symm.trans hh)⟩
    · exact hu
  · rw [enterPlaced_of_changed hj hu hm]
    exact (hp.change { hp.counted with consecutive_le := Nat.zero_le 3 }).enterByMode

/-! ## The discards of STOP and INITIALIZE -/

theorem OutletsSound.discardItems (h : OutletsSound s) : OutletsSound (discardItems s) :=
  h.agree (fun _ => rfl) fun k => by simp [Machine.discardItems]

/-- INITIALIZE masks every outlet and clears its count of unconfirmed items; it keeps the offsets (R64, R95). -/
theorem OutletsSound.initializeBlocks (h : OutletsSound s) : OutletsSound (initializeBlocks s) := by
  refine (outletsSound_iff _).2 fun k => ?_
  have ho : (Machine.initializeBlocks s).outlets[k] = { s.outlets[k] with masked := true, consecutive := 0 } := by
    simp [Machine.initializeBlocks]
  have ht : (Machine.initializeBlocks s).timing[k].offset = s.timing[k].offset := by
    simp [Machine.initializeBlocks]
  rw [ho, ht]
  exact { h.get k with consecutive_le := Nat.zero_le 3 }

/-! ## The taking of a request -/

/-- A handler that leaves the outlets sound. -/
def KeepsOutlets (handle : Request → State → State) : Prop := ∀ q s, OutletsSound s → OutletsSound (handle q s)

theorem OutletsSound.oldestRequest {isFor : Request → Bool} {places : Nat} {q : Request} (h : OutletsSound s)
    (ho : oldestRequest isFor places s = some (q, t)) : OutletsSound t := by
  unfold Machine.oldestRequest at ho
  split at ho
  · cases ho
  · split at ho
    · cases ho
      exact h.onLink _
    · cases ho

namespace KeepsOutlets

theorem takeRequestWith {places code length : Nat} {linkOnly : Bool} {handle : Request → State → State}
    (hh : KeepsOutlets handle) (h : OutletsSound s) :
    OutletsSound (takeRequestWith places code length linkOnly handle s) := by
  unfold Machine.takeRequestWith
  split
  · exact h
  · next q s1 ho =>
    have h1 := h.oldestRequest ho
    split
    · exact h1.respond _ _ _
    · split
      · exact h1.respond _ _ _
      · exact hh q s1 h1

/-- A request command whose handler leaves the outlets sound leaves them sound. -/
theorem taken {places code length : Nat} {linkOnly : Bool} {handle : Request → State → State}
    (hh : KeepsOutlets handle) (h : OutletsSound s)
    (hx : (.next (Machine.takeRequestWith places code length linkOnly handle s) : Result) = .next t) : OutletsSound t :=
  keeps_next (hh.takeRequestWith h) hx

theorem answerRead (f : Request → State → Option (List Byte)) : KeepsOutlets (answerRead f) := fun q s h => by
  unfold Machine.answerRead
  split <;> exact h.respond _ _ _

/-! ### Requests to the line, the Air Arbiter and the geometry -/

theorem handleStart : KeepsOutlets handleStart := fun q s h => by
  unfold Machine.handleStart
  split
  · exact ((h.respond _ _ _).moveLine _ _).driveOutputs
  · exact h.respond _ _ _

theorem handleDrain : KeepsOutlets handleDrain := fun q s h => by
  unfold Machine.handleDrain
  split
  · exact ((h.respond _ _ _).moveLine _ _).settleLine
  · exact h.respond _ _ _

theorem handleStop : KeepsOutlets handleStop := fun q s h => by
  unfold Machine.handleStop
  split
  · exact h.respond _ _ _
  · exact ((h.respond _ _ _).moveLine _ _).discardItems.cutPulses.driveOutputs

theorem handleResume : KeepsOutlets handleResume := fun q s h => by
  unfold Machine.handleResume
  split
  · split
    · exact (OutletsSound.inEitherOrder OutletsSound.examineHead OutletsSound.examine
        ((h.respond _ _ _).moveLine _ _)).settleLine
    · exact h.respond _ _ _
  all_goals exact h.respond _ _ _

theorem handleInitialize : KeepsOutlets handleInitialize := fun _ _ h =>
  (((h.onLine _).discardItems.cutPulses.initializeBlocks.respond _ _ _).raiseNotice _).driveOutputs

theorem handleSetGeometry : KeepsOutlets handleSetGeometry := fun q s h => by
  unfold Machine.handleSetGeometry
  split
  · dsimp only
    split
    · exact OutletsSound.driveOutputs (h.elsewhere rfl rfl)
    · exact h.respond _ _ _
  · exact h.respond _ _ _

theorem handleSetSpeedCodes : KeepsOutlets handleSetSpeedCodes := fun q s h => by
  unfold Machine.handleSetSpeedCodes
  dsimp only
  split
  · exact ((h.respond _ _ _).onLine _).driveOutputs
  · exact h.respond _ _ _

theorem handleSetAir : KeepsOutlets handleSetAir := fun q s h => by
  unfold Machine.handleSetAir writeAir
  dsimp only
  split
  · exact h.respond _ _ _
  · split
    · split
      · exact ((h.respond _ _ _).onAir _).examine.settleLine
      · exact (h.respond _ _ _).onAir _
    · exact h.respond _ _ _

/-! ### Requests to an outlet -/

theorem withOutlet {f : Request → OutletId → State → State}
    (hf : ∀ q k s, OutletsSound s → OutletsSound (f q k s)) :
    KeepsOutlets fun q s => withOutlet q (f q) s := fun q s h => by
  dsimp only
  unfold Machine.withOutlet
  split
  · exact h.respond _ _ _
  · split
    · exact hf _ _ _ h
    · exact h.respond _ _ _

theorem handleMask : KeepsOutlets handleMask := withOutlet fun q k _ h =>
  (((h.respond q .done []).onOutlet { h.get k with }).reportLoss k _).driveOutputs

theorem handleUnmask : KeepsOutlets handleUnmask := withOutlet fun q k _ h =>
  (h.respond q .done []).onOutlet { h.get k with }

/-- A base count above 0 leaves a place in a crate that had one (R108). -/
theorem handleSetCrate : KeepsOutlets handleSetCrate := withOutlet fun q k s h => by
  dsimp only
  split
  · exact h.respond _ _ _
  · split
    · next hb =>
      obtain ⟨hlo, hhi⟩ := hb
      refine (h.respond q .done []).onOutlet { h.get k with
        base_pos := hlo
        base_le := hhi
        current_le := min_le_right _ _
        place_left := fun hm ho => lt_min ((h.get k).place_left hm ho) hlo }
    · exact h.respond _ _ _

theorem handleReloadCrate : KeepsOutlets handleReloadCrate := withOutlet fun q k s h => by
  dsimp only
  split
  · next hc =>
    have hu : s.outlets[k].state ≠ .unconfigured := by
      rcases hc.2 with hst | hst <;> rw [hst] <;> simp
    exact ((h.respond q .done []).mayEnter hu).freshCrate
  · exact h.respond _ _ _

theorem handleClearJam : KeepsOutlets handleClearJam := withOutlet fun q k s h => by
  split
  · next hj =>
    have hk : MayEnter k (respond q .done [] s) := (h.respond q .done []).mayEnter (hj ▸ nofun)
    exact (hk.change { hk.counted with consecutive_le := Nat.zero_le 3 }).enterByMode
  · exact h.respond _ _ _

theorem handleSetPlaceTiming : KeepsOutlets handleSetPlaceTiming := fun q s h => by
  unfold Machine.handleSetPlaceTiming
  split
  · exact h.respond _ _ _
  · exact (h.respond _ _ _).onLink _

theorem handleSetOutletPlace : KeepsOutlets handleSetOutletPlace := fun q s h => by
  unfold Machine.handleSetOutletPlace
  split
  · exact h.respond _ _ _
  · split
    · exact h.respond _ _ _
    · split
      · exact h.respond _ _ _
      · split
        · exact h.respond _ _ _
        · exact (h.respond _ _ _).placeOutlet _ _

/-! ### Routes, channels and balances -/

theorem handleSetRoute : KeepsOutlets handleSetRoute := fun q s h => by
  unfold Machine.handleSetRoute
  split
  · split
    · split
      · split
        · exact h.respond _ _ _
        · split
          · exact h.elsewhere rfl rfl
          · exact h.respond _ _ _
      · exact h.respond _ _ _
    · exact h.respond _ _ _
  · exact h.respond _ _ _

theorem withChannel {f : Request → ChannelId → State → State}
    (hf : ∀ q c s, OutletsSound s → OutletsSound (f q c s)) :
    KeepsOutlets fun q s => withChannel q (f q) s := fun q s h => by
  dsimp only
  unfold Machine.withChannel
  split
  · exact h.respond _ _ _
  · split
    · exact hf _ _ _ h
    · exact h.respond _ _ _

theorem handleSetChannel : KeepsOutlets handleSetChannel := withChannel fun q c s h => by
  split
  · split
    · split
      · exact (h.respond _ _ _).onChannel c _
      · exact h.respond _ _ _
    · exact h.respond _ _ _
  · exact h.respond _ _ _

theorem handleEnableChannel : KeepsOutlets handleEnableChannel := withChannel fun q c s h => by
  split
  · exact (h.respond _ _ _).onChannel c _
  · exact h.respond _ _ _

theorem handleChannelOff : KeepsOutlets handleChannelOff := withChannel fun q c s h => by
  dsimp only
  split
  · exact ((((h.respond _ _ _).onChannel c _).handRelease c).raiseNotice _).driveOutputs
  · exact (h.respond _ _ _).onChannel c _

theorem withAccount {allowed : Fin 6 → StationId → Bool} {f : Request → Fin 6 → Fin 6 → State → State}
    (hf : ∀ q c i s, OutletsSound s → OutletsSound (f q c i s)) :
    KeepsOutlets fun q s => withAccount q allowed (f q) s := fun q s h => by
  dsimp only
  unfold Machine.withAccount
  split
  · split
    · exact hf _ _ _ _ h
    · exact h.respond _ _ _
  · exact h.respond _ _ _

theorem takeChange (q : Request) (c f : Fin 6) (g : Accumulator → Accumulator) (h : OutletsSound s) :
    OutletsSound (takeChange q c f g s) := outletsSound_beltClosed.changeAccount c f g (h.respond _ _ _)

theorem handleIssue : KeepsOutlets handleIssue := withAccount fun q c f s h => by
  dsimp only
  split
  · exact takeChange q c f _ h
  · exact h.respond _ _ _

theorem handleAdjust : KeepsOutlets handleAdjust := withAccount fun q c f s h => by
  dsimp only
  split
  · exact takeChange q c f _ h
  · exact h.respond _ _ _

theorem handleSetValue : KeepsOutlets handleSetValue := withAccount fun q c f _ h => takeChange q c f _ h

theorem handleSetThreshold : KeepsOutlets handleSetThreshold := withAccount fun q c f s h => by
  dsimp only
  split
  · exact takeChange q c f _ (h.onBalance c _)
  · exact h.respond _ _ _

theorem handleClearFlags : KeepsOutlets handleClearFlags := withAccount fun _ _ _ _ h => h.elsewhere rfl rfl

theorem handleSetBalanceMode : KeepsOutlets handleSetBalanceMode := fun q s h => by
  unfold Machine.handleSetBalanceMode
  split
  · exact h.respond _ _ _
  · split
    · split
      · exact h.respond _ _ _
      · exact (h.respond _ _ _).onBalance _ _
    · exact h.respond _ _ _

/-! ### Masks and polls -/

theorem handleSetNoticeMask : KeepsOutlets handleSetNoticeMask := fun _ _ h => h.elsewhere rfl rfl

theorem handlePollNotices : KeepsOutlets handlePollNotices := fun q s h => by
  unfold Machine.handlePollNotices
  extract_lets st removed left s1 s2 s3
  have h2 : OutletsSound s2 := h.elsewhere rfl rfl
  have h3 : OutletsSound s3 := foldl_keeps (fun _ _ hs => hs.elsewhere rfl rfl) removed h2
  split
  · exact h3.onLink _
  · exact h3

end KeepsOutlets

end Sys2Proof.Machine
end

section
/-! SUPPORT. Every command leaves the outlets sound. -/

namespace Sys2Proof.Machine

open Sys2Proof

variable {s t : State}

namespace OutletsSound

/-! ## The commands -/

theorem execEncoderEvent (h : OutletsSound s) (p : Phases) (hx : execEncoderEvent p s = .next t) : OutletsSound t := by
  have h1 : OutletsSound (takePhases p s) := h.onSensing _
  unfold Machine.execEncoderEvent at hx
  split at hx
  · exact keeps_next h hx
  · refine keeps_next ?_ hx
    unfold forwardStep
    split
    · exact h1.onSensing _
    · exact (OutletsSound.inEitherOrder outletsSound_beltClosed.admissionAdvance outletsSound_beltClosed.trackAdvance
        (h1.onSensing _)).settleLine
  · refine keeps_next ?_ hx
    unfold reverseStep
    dsimp only
    split
    · exact driveOutputs (outletsSound_beltClosed.raiseReverse (h1.onSensing _))
    · exact h1.onSensing _
  · exact keeps_next (h1.onSensing _) hx

theorem recomputeLeads (h : OutletsSound s) : OutletsSound (recomputeLeads s) :=
  h.agree (fun k => by rw [recomputeLeads_get]) fun _ => rfl

theorem execSpeedIntervalClose (h : OutletsSound s) (hx : execSpeedIntervalClose s = .next t) : OutletsSound t := by
  unfold Machine.execSpeedIntervalClose at hx
  split at hx
  · exact keeps_next (settleLine (outletsSound_beltClosed.evaluateTrack (h.onSensing _).recomputeLeads)) hx
  · exact keeps_next h hx

theorem execFrameTimerExpiry (h : OutletsSound s) (hx : execFrameTimerExpiry s = .next t) : OutletsSound t := by
  unfold Machine.execFrameTimerExpiry at hx
  split at hx
  · exact keeps_next h hx
  · split at hx
    · refine keeps_next ?_ hx
      exact h.elsewhere rfl rfl
    · exact keeps_next h hx

theorem execCaptureMessageBegin (h : OutletsSound s) (hx : execCaptureMessageBegin s = .next t) : OutletsSound t := by
  unfold Machine.execCaptureMessageBegin at hx
  split at hx
  · exact keeps_next (h.onAdmission _) hx
  · exact keeps_next h hx

theorem endPulse (h : OutletsSound s) (k : OutletId) (tag : SequenceTag) : OutletsSound (endPulse k tag s) := by
  have h1 : OutletsSound (awaitConfirm k tag (deEnergise k s)) :=
    OutletsSound.framed (s := deEnergise k s) (h.onAir _) ((AdvanceFrame.refl _).awaitConfirm k tag)
  exact h1.examine.diverted (present_diversion k _)

theorem execPulseEnd (h : OutletsSound s) (k : OutletId) (hx : execPulseEnd k s = .next t) : OutletsSound t := by
  unfold Machine.execPulseEnd at hx
  split at hx
  · exact keeps_next h hx
  · split at hx
    · exact keeps_next (h.endPulse k _).settleLine hx
    · exact keeps_next h hx

theorem execConfirmTimeout (h : OutletsSound s) (k : OutletId) (hx : execConfirmTimeout k s = .next t) :
    OutletsSound t := by
  unfold Machine.execConfirmTimeout at hx
  split at hx
  · exact keeps_next h hx
  · split at hx
    · exact keeps_next (h.timeoutHead k).settleLine hx
    · exact keeps_next h hx

theorem execSettleTimeExpiry (h : OutletsSound s) (c : ChannelId) (hx : execSettleTimeExpiry c s = .next t) :
    OutletsSound t := by
  unfold Machine.execSettleTimeExpiry at hx
  split at hx
  · split at hx
    · refine keeps_next ?_ hx
      exact h.elsewhere rfl rfl
    · exact keeps_next h hx
  · exact keeps_next h hx

theorem execChannelSample (h : OutletsSound s) (c : ChannelId) (above : Bool)
    (hx : execChannelSample c above s = .next t) : OutletsSound t := by
  have h1 : OutletsSound (scheduleSample c s) := h.onChannel c _
  unfold Machine.execChannelSample at hx
  split at hx
  · exact keeps_next h hx
  · split at hx
    · split at hx
      · exact keeps_next (h1.sampleFirst c _).driveOutputs hx
      · exact keeps_next (h1.sampleWatching c _).driveOutputs hx
      · exact keeps_next h hx
      · exact keeps_next h hx
    · exact keeps_next h hx

theorem execFrameArrival (h : OutletsSound s) (frame : CanFrame) (remote : Bool)
    (hx : execFrameArrival frame remote s = .next t) : OutletsSound t := by
  unfold Machine.execFrameArrival receiveRequest at hx
  split at hx
  · exact keeps_next h hx
  · split at hx
    · exact keeps_next h hx
    · refine keeps_next ?_ hx
      split <;> exact h.onLink _

theorem execFrameTransmitted (h : OutletsSound s) (hx : execFrameTransmitted s = .next t) : OutletsSound t := by
  unfold Machine.execFrameTransmitted at hx
  split at hx
  · exact keeps_next (h.onLink _) hx
  · exact keeps_next h hx

theorem execFrameTransmissionBegin (h : OutletsSound s) (hx : execFrameTransmissionBegin s = .next t) :
    OutletsSound t := by
  unfold Machine.execFrameTransmissionBegin at hx
  split at hx
  · exact keeps_next h hx
  · exact keeps_next (h.onLink _) hx

theorem execUnassignedRequestCode (h : OutletsSound s) (hx : execUnassignedRequestCode s = .next t) :
    OutletsSound t := by
  unfold Machine.execUnassignedRequestCode at hx
  split at hx
  · exact keeps_next h hx
  · next ho => exact keeps_next ((h.oldestRequest ho).respond _ _ _) hx

theorem exec {c : Instr} (h : OutletsSound s) (hx : exec c s = .next t) : OutletsSound t := by
  cases c with
  | powerOn p e => exact keeps_next (outletsSound_powerOn p e s) hx
  | encoderEvent p => exact h.execEncoderEvent p hx
  | speedIntervalClose => exact h.execSpeedIntervalClose hx
  | geLeadingEdge => exact keeps_next h.takeLeadingEdge hx
  | geTrailingEdge => exact keeps_next h.takeTrailingEdge hx
  | chuteGateRising k => exact keeps_next (h.takeChuteRising k) hx
  | crateRemoved k => exact keeps_next (h.takeCrateFalling k) hx
  | cratePlaced k => exact keeps_next (h.takeCrateRising k) hx
  | readyLineRising k => exact keeps_next (h.takeReadyRising k) hx
  | readyLineFalling k => exact keeps_next (h.takeReadyFalling k) hx
  | receiveByte value framingError => exact keeps_next (h.takeByte value framingError) hx
  | frameTimerExpiry => exact h.execFrameTimerExpiry hx
  | captureMessageBegin => exact h.execCaptureMessageBegin hx
  | captureMessageSent => exact keeps_next (h.onAdmission _) hx
  | pulseEnd k => exact h.execPulseEnd k hx
  | confirmTimeout k => exact h.execConfirmTimeout k hx
  | estopAssertion =>
    exact keeps_next (driveOutputs (cutPulses (outletsSound_beltClosed.haltLine _ (h.onLine _)))) hx
  | estopRelease => exact keeps_next (driveOutputs (h.onLine _)) hx
  | settleTimeExpiry c => exact h.execSettleTimeExpiry c hx
  | channelSample c above => exact h.execChannelSample c above hx
  | frameArrival frame remote => exact h.execFrameArrival frame remote hx
  | frameTransmitted => exact h.execFrameTransmitted hx
  | unassignedRequestCode => exact h.execUnassignedRequestCode hx
  | start => exact KeepsOutlets.handleStart.taken h hx
  | drain => exact KeepsOutlets.handleDrain.taken h hx
  | stop => exact KeepsOutlets.handleStop.taken h hx
  | resume => exact KeepsOutlets.handleResume.taken h hx
  | initializeLine => exact KeepsOutlets.handleInitialize.taken h hx
  | setGeometry => exact KeepsOutlets.handleSetGeometry.taken h hx
  | setSpeedCodes => exact KeepsOutlets.handleSetSpeedCodes.taken h hx
  | setAir => exact KeepsOutlets.handleSetAir.taken h hx
  | setPlaceTiming => exact KeepsOutlets.handleSetPlaceTiming.taken h hx
  | setOutletPlace => exact KeepsOutlets.handleSetOutletPlace.taken h hx
  | mask => exact KeepsOutlets.handleMask.taken h hx
  | unmask => exact KeepsOutlets.handleUnmask.taken h hx
  | setCrate => exact KeepsOutlets.handleSetCrate.taken h hx
  | reloadCrate => exact KeepsOutlets.handleReloadCrate.taken h hx
  | clearJam => exact KeepsOutlets.handleClearJam.taken h hx
  | setRoute => exact KeepsOutlets.handleSetRoute.taken h hx
  | setChannel => exact KeepsOutlets.handleSetChannel.taken h hx
  | enableChannel => exact KeepsOutlets.handleEnableChannel.taken h hx
  | channelOff => exact KeepsOutlets.handleChannelOff.taken h hx
  | issue => exact KeepsOutlets.handleIssue.taken h hx
  | adjust => exact KeepsOutlets.handleAdjust.taken h hx
  | setValue => exact KeepsOutlets.handleSetValue.taken h hx
  | setBalanceMode => exact KeepsOutlets.handleSetBalanceMode.taken h hx
  | setThreshold => exact KeepsOutlets.handleSetThreshold.taken h hx
  | clearFlags => exact KeepsOutlets.handleClearFlags.taken h hx
  | readLine => exact (KeepsOutlets.answerRead _).taken h hx
  | readOutlet => exact (KeepsOutlets.answerRead _).taken h hx
  | readConfirmQueue => exact (KeepsOutlets.answerRead _).taken h hx
  | readTrackEntry => exact (KeepsOutlets.answerRead _).taken h hx
  | readPending => exact (KeepsOutlets.answerRead _).taken h hx
  | readRoute => exact (KeepsOutlets.answerRead _).taken h hx
  | readChannel => exact (KeepsOutlets.answerRead _).taken h hx
  | readBalance => exact (KeepsOutlets.answerRead _).taken h hx
  | readCounts => exact (KeepsOutlets.answerRead _).taken h hx
  | setNoticeMask => exact KeepsOutlets.handleSetNoticeMask.taken h hx
  | pollNotices => exact KeepsOutlets.handlePollNotices.taken h hx
  | inputSample ge chutes crates readies =>
    have h1 := h.handEdges s.sensing.edges.length
    refine keeps_next ?_ hx
    exact h1.elsewhere rfl rfl
  | frameTransmissionBegin => exact h.execFrameTransmissionBegin hx

end OutletsSound

end Sys2Proof.Machine

open Sys2Proof Sys2Proof.Machine

/-- Settles O9, by the commands: an outlet that enters a state enters one of its mode with counts in range. -/
theorem stepKeepsOutletsSound : Obligations.StepKeepsOutletsSound := by
  intro s t h hx
  unfold step at hx
  split at hx
  · exact keeps_next h hx
  · next c rest _ =>
    have h1 : OutletsSound { s with pending := rest } := h.elsewhere rfl rfl
    exact h1.exec hx
end

section
/-! SUPPORT. The states an outlet enters, said with the loss of an accepting outlet: FULL, JAMMED, the fresh crate and
the state by the mode (R96, R102, R104, R106, R107, R109, R114). -/

namespace Sys2Proof.Machine

open Sys2Proof

variable {s : State} {k : OutletId}

theorem raiseNotice_outlets (n : Notice) (s : State) : (raiseNotice n s).outlets = s.outlets := by
  obtain ⟨l, -, h⟩ := raiseNotice_onLink n s
  rw [h]

theorem State.onOutlet_onOutlet (s : State) (k : OutletId) (f g : Outlet → Outlet) :
    (s.onOutlet k f).onOutlet k g = s.onOutlet k fun o => g (f o) := by
  simp [State.onOutlet]

/-- An outlet that is not accepting after an event lost its acceptance if it was accepting before (R96). -/
theorem reportLoss_of_not_accepting (h : accepting k s = false) (before : Bool) :
    reportLoss present k before s = if before = true then lossOfAcceptance present k s else s := by
  simp [reportLoss_eq, h]

theorem accepting_raiseNotice (k : OutletId) (n : Notice) (s : State) :
    accepting k (raiseNotice n s) = accepting k s :=
  accepting_congr (raiseNotice_sensing n s) (by rw [raiseNotice_outlets])

/-- An outlet that has left OPEN or is masked is not accepting. -/
theorem not_accepting_onOutlet {f : Outlet → Outlet}
    (hf : (f s.outlets[k]).state ≠ .opened ∨ (f s.outlets[k]).masked = true) :
    accepting k (s.onOutlet k f) = false :=
  accepting_eq_false (by rwa [State.onOutlet_get, if_pos rfl])

theorem enterFull_eq (k : OutletId) (before : Bool) (s : State) : enterFull k before s =
    let full := raiseNotice (.crateFull k s.outlets[k].currentCount (s.outlets[k].cratesCompleted + 1))
      (s.onOutlet k fun o => { o with state := .full, cratesCompleted := o.cratesCompleted + 1 })
    if before = true then lossOfAcceptance present k full else full := by
  unfold enterFull
  simp only [State.onOutlet_get, if_true]
  refine reportLoss_of_not_accepting ?_ before
  rw [accepting_raiseNotice]
  exact not_accepting_onOutlet (.inl nofun)

theorem enterJam_eq (k : OutletId) (before : Bool) (s : State) : enterJam k before s =
    let jammed := raiseNotice (.jam k s.outlets[k].unconfirmed) (s.onOutlet k fun o => { o with state := .jammed })
    if before = true then lossOfAcceptance present k jammed else jammed := by
  unfold enterJam
  simp only [State.onOutlet_get, if_true]
  refine reportLoss_of_not_accepting ?_ before
  rw [accepting_raiseNotice]
  exact not_accepting_onOutlet (.inl nofun)

/-! ## The state by the mode (R109, R114) -/

theorem enterByMode_handoff (hm : s.outlets[k].mode = .handoff) :
    enterByMode k s = s.onOutlet k fun o => { o with state := .opened } := by
  simp only [enterByMode, hm]

section

variable (hm : s.outlets[k].mode = .crate)
include hm

theorem enterByMode_swap (hc : filteredState (.crateSensor k) s = false) :
    enterByMode k s = s.onOutlet k fun o => { o with state := .swap } := by
  simp only [enterByMode, hm, enterByCrate, hc, Bool.false_eq_true, if_false]

variable (hc : filteredState (.crateSensor k) s = true)
include hc

theorem enterByMode_opened (hn : s.outlets[k].currentCount ≠ 0) :
    enterByMode k s = s.onOutlet k fun o => { o with state := .opened } := by
  simp only [enterByMode, hm, enterByCrate, hc, if_true, hn, if_false]

theorem enterByMode_full (hn : s.outlets[k].currentCount = 0) : enterByMode k s =
    raiseNotice (.crateFull k 0 (s.outlets[k].cratesCompleted + 1))
      (s.onOutlet k fun o => { o with state := .full, cratesCompleted := o.cratesCompleted + 1 }) := by
  simp only [enterByMode, hm, enterByCrate, hc, if_true, hn]
  rw [enterFull_eq, hn]
  rfl

end

/-! ## The fresh crate (R106, R107) -/

theorem freshCrate_opened (hn : s.outlets[k].consecutive ≠ 3) : freshCrate k s =
    s.onOutlet k fun o => { o with currentCount := o.baseCount, state := .opened } := by
  unfold freshCrate openOrJam
  simp only [State.onOutlet_get, if_true, hn, if_false]
  exact State.onOutlet_onOutlet ..

/-- A jam that is owed: the outlet was not OPEN, so nothing is lost. -/
theorem freshCrate_jammed (ho : s.outlets[k].state ≠ .opened) (hn : s.outlets[k].consecutive = 3) : freshCrate k s =
    raiseNotice (.jam k s.outlets[k].unconfirmed)
      (s.onOutlet k fun o => { o with currentCount := o.baseCount, state := .jammed }) := by
  have ha : accepting k (s.onOutlet k fun o => { o with currentCount := o.baseCount }) = false :=
    not_accepting_onOutlet (.inl ho)
  unfold freshCrate openOrJam
  simp only [State.onOutlet_get, if_true, hn, ha, enterJam_eq, State.onOutlet_onOutlet]
  rfl

end Sys2Proof.Machine

open Sys2Proof Sys2Proof.Machine

/-- Settles O39: an outlet in FULL or JAMMED is not accepting, and the state by the mode is one of four. -/
theorem outletsEnterTheirStates : Obligations.OutletsEnterTheirStates :=
  ⟨fun k before s => ⟨enterFull_eq k before s, enterJam_eq k before s⟩, fun _ _ =>
    ⟨enterByMode_handoff, enterByMode_swap, fun hm hc => ⟨enterByMode_opened hm hc, enterByMode_full hm hc⟩⟩⟩
end

section
/-! SUPPORT. The edges of a crate sensor (R15, R105, R106). -/

namespace Sys2Proof.Machine

open Sys2Proof

variable {s : State} {k : OutletId} {others : List FilteredEdge}

/-! ## A crate removed -/

theorem exec_crateRemoved (h : s.reports { input := .crateSensor k, rising := false, position := 0 } others) :
    exec (.crateRemoved k) s = .next (removeCrate k (s.withEdges others)) := by
  have ht : takeEdge (.crateSensor k) false s = some (_, s.withEdges others) := takeEdge_of_reports h
  simp only [exec, execCrateRemoved, takeCrateFalling, ht]

theorem removeCrate_taken
    (h : s.outlets[k].mode = .crate ∧
      (s.outlets[k].state = .opened ∨ s.outlets[k].state = .full ∨ s.outlets[k].state = .held)) :
    removeCrate k s =
      let v := s.onOutlet k fun o => { o with state := .swap }
      driveOutputs (if accepting k s = true then lossOfAcceptance present k v else v) := by
  have ha : accepting k (s.onOutlet k fun o => { o with state := .swap }) = false :=
    not_accepting_onOutlet (.inl nofun)
  unfold removeCrate
  rw [if_pos h, reportLoss_of_not_accepting ha]

/-! ## A crate placed -/

theorem exec_cratePlaced (h : s.reports { input := .crateSensor k, rising := true, position := 0 } others) :
    exec (.cratePlaced k) s = .next (placeCrate k (s.withEdges others)) := by
  have ht : takeEdge (.crateSensor k) true s = some (_, s.withEdges others) := takeEdge_of_reports h
  simp only [exec, execCratePlaced, takeCrateRising, ht]

section

variable (hm : s.outlets[k].mode = .crate) (hst : s.outlets[k].state = .swap)
include hm hst

theorem placeCrate_held (ha : s.outlets[k].autoreload = false) :
    placeCrate k s = s.onOutlet k fun o => { o with state := .held } := by
  simp only [placeCrate, hm, hst, and_self, if_true, ha, Bool.false_eq_true, if_false]

theorem placeCrate_fresh (ha : s.outlets[k].autoreload = true) : placeCrate k s = freshCrate k s := by
  simp only [placeCrate, hm, hst, and_self, if_true, ha]

end

end Sys2Proof.Machine

open Sys2Proof Sys2Proof.Machine

/-- Settles O43, by the states in which the edges of a crate sensor act. -/
theorem crateEdgesMoveTheOutlet : Obligations.CrateEdgesMoveTheOutlet := by
  refine ⟨fun k others s h => ?_, fun k others s h => ?_⟩
  · intro u o v
    have ha : accepting k u = accepting k s := by
      rw [accepting, filteredState_withEdges h (by simp)]
      rfl
    rw [exec_crateRemoved h]
    refine ⟨fun hc => ?_, fun hc => congrArg Host.Outcome.next (if_neg hc)⟩
    rw [removeCrate_taken (s := u) hc, ha]
  · intro u o
    rw [exec_cratePlaced h]
    refine ⟨fun hm hst => ⟨fun ha => ?_, fun ha hn => ?_, fun ha hn => ?_⟩,
      fun hc => congrArg Host.Outcome.next (if_neg hc)⟩
    · rw [placeCrate_held (s := u) hm hst ha]
    · rw [placeCrate_fresh (s := u) hm hst ha, freshCrate_opened (s := u) hn]
    · have ho : u.outlets[k].state ≠ .opened := fun ho => absurd (hst.symm.trans ho) nofun
      rw [placeCrate_fresh (s := u) hm hst ha, freshCrate_jammed ho hn]
      rfl
end

section
/-! SUPPORT. MASK, UNMASK, SET CRATE, RELOAD CRATE and CLEAR JAM, taken and refused (R107 to R109, R111, R112). -/

namespace Sys2Proof.Machine

open Sys2Proof

variable {s : State} {k : OutletId} {rest : List Request} {a : StationId} {tag : Byte}

/-! ## The checks of subject and sender (R112) -/

theorem withOutlet_of_none {q : Request} (hk : outletOf (q.byte 2) = none) (handle : OutletId → State → State)
    (s : State) : withOutlet q handle s = respond q .badValue [] s := by
  simp only [withOutlet, hk]

theorem withOutlet_of_stranger {q : Request} (hk : outletOf (q.byte 2) = some k)
    (ha : ¬ (q.station = 0 ∨ q.station = s.outlets[k].owner)) (handle : OutletId → State → State) :
    withOutlet q handle s = respond q .notYours [] s := by
  simp only [withOutlet, hk, if_neg ha]

theorem withOutlet_of_entitled {q : Request} (hk : outletOf (q.byte 2) = some k)
    (ha : q.station = 0 ∨ q.station = s.outlets[k].owner) (handle : OutletId → State → State) :
    withOutlet q handle s = handle k s := by
  simp only [withOutlet, hk, if_pos ha]

/-- The five requests to an outlet make these checks first. -/
theorem exec_outletRequest {c : Instr} {row : RequestRow} {n : Byte} {args : List Byte}
    (hc : c ∈ [Instr.mask, .unmask, .setCrate, .reloadCrate, .clearJam]) (hrow : requestRow c = some row)
    (h : s.asked a (row.code :: tag :: n :: args) rest) (hl : args.length + 3 = row.length) :
    ∃ handle, exec c s = .next
      (withOutlet { station := a, data := row.code :: tag :: n :: args } handle (s.unanswered rest)) := by
  have hl' : (n :: args).length + 2 = row.length := hl
  simp only [List.mem_cons, List.not_mem_nil, or_false] at hc
  rcases hc with rfl | rfl | rfl | rfl | rfl <;> cases hrow
  · exact ⟨_, congrArg Host.Outcome.next (takeRequest_asked h handleMask hl' nofun)⟩
  · exact ⟨_, congrArg Host.Outcome.next (takeRequest_asked h handleUnmask hl' nofun)⟩
  · exact ⟨_, congrArg Host.Outcome.next (takeRequest_asked h handleSetCrate hl' nofun)⟩
  · exact ⟨_, congrArg Host.Outcome.next (takeRequest_asked h handleReloadCrate hl' nofun)⟩
  · exact ⟨_, congrArg Host.Outcome.next (takeRequest_asked h handleClearJam hl' nofun)⟩

/-- A request to an outlet from its owner or station 0 is carried out on the state with the request taken. -/
theorem exec_entitled {c : Instr} {code : Byte} {args : List Byte} {f : Request → OutletId → State → State}
    {length : Nat} (hc : exec c s = .next (takeRequest code.toNat length false (fun q s => withOutlet q (f q) s) s))
    (h : s.asked a (code :: tag :: numberByte k :: args) rest) (hl : args.length + 3 = length)
    (ha : a = 0 ∨ a = s.outlets[k].owner) : exec c s =
      .next (f { station := a, data := code :: tag :: numberByte k :: args } k (s.unanswered rest)) := by
  have hl' : (numberByte k :: args).length + 2 = length := hl
  rw [hc, takeRequest_asked (linkOnly := false) h _ hl' nofun]
  refine congrArg Host.Outcome.next (withOutlet_of_entitled ?_ ha _)
  exact outletOf_numberByte k

/-! ## The five requests, taken -/

theorem switchOfCode_byte (b : Byte) :
    switchOfCode b.toNat = if b = 0 ∨ b = 1 then some (decide (b = 1)) else none := by
  revert b
  decide

section

variable (ha : a = 0 ∨ a = s.outlets[k].owner)
include ha

/-- MASK: an outlet that is masked is not accepting, so it loses its acceptance if it had it (R111). -/
theorem exec_mask (h : s.asked a [0x10, tag, numberByte k] rest) : exec .mask s =
    let v := (s.taken rest (answer a 0x10 tag .done noResults)).onOutlet k fun o => { o with masked := true }
    .next (driveOutputs (if accepting k s = true then lossOfAcceptance present k v else v)) := by
  rw [exec_entitled rfl h rfl ha, respond_unanswered, reportLoss_of_not_accepting (not_accepting_onOutlet (.inr rfl))]
  rfl

theorem exec_unmask (h : s.asked a [0x11, tag, numberByte k] rest) : exec .unmask s =
    .next ((s.taken rest (answer a 0x11 tag .done noResults)).onOutlet k fun o => { o with masked := false }) := by
  rw [exec_entitled rfl h rfl ha, respond_unanswered]
  rfl

/-- RELOAD CRATE: a FULL or HELD crate is fresh (R107). -/
theorem exec_reloadCrate (h : s.asked a [0x13, tag, numberByte k] rest) : exec .reloadCrate s = .next
    (if s.outlets[k].mode = .crate ∧ (s.outlets[k].state = .full ∨ s.outlets[k].state = .held) then
      freshCrate k (s.taken rest (answer a 0x13 tag .done noResults))
    else s.taken rest (answer a 0x13 tag .wrongState noResults)) := by
  rw [exec_entitled rfl h rfl ha, respond_unanswered, respond_unanswered]
  rfl

/-- CLEAR JAM: a JAMMED outlet enters by its mode with its count at 0 (R109). -/
theorem exec_clearJam (h : s.asked a [0x14, tag, numberByte k] rest) : exec .clearJam s = .next
    (if s.outlets[k].state = .jammed then
      enterByMode k ((s.taken rest (answer a 0x14 tag .done noResults)).onOutlet k fun o => { o with consecutive := 0 })
    else s.taken rest (answer a 0x14 tag .wrongState noResults)) := by
  rw [exec_entitled rfl h rfl ha, respond_unanswered, respond_unanswered]
  rfl

/-! ### SET CRATE (R108) -/

section

variable {base code : Byte} (h : s.asked a [0x12, tag, numberByte k, base, code] rest)
include h

theorem exec_setCrate : exec .setCrate s = .next
    (if (code = 0 ∨ code = 1) ∧ 1 ≤ base.toNat ∧ base.toNat ≤ 250 then
      (s.taken rest (answer a 0x12 tag .done noResults)).onOutlet k fun o =>
        { o with
          baseCount := base.toNat
          autoreload := decide (code = 1)
          currentCount := if base.toNat < o.currentCount then base.toNat else o.currentCount }
    else s.taken rest (answer a 0x12 tag .badValue noResults)) := by
  rw [exec_entitled rfl h rfl ha, respond_unanswered, respond_unanswered]
  have hcode : switchOfCode (Request.byte { station := a, data := [0x12, tag, numberByte k, base, code] } 4) = _ :=
    switchOfCode_byte code
  have hmin : ∀ n : Nat, (if base.toNat < n then base.toNat else n) = min n base.toNat := fun n => by
    rw [min_comm, min_def_lt]
  dsimp only
  rw [hcode]
  simp only [hmin]
  by_cases hc : code = 0 ∨ code = 1
  · simp only [hc, if_true, true_and]
    rfl
  · simp only [hc, if_false, false_and]
    rfl

end

end

end Sys2Proof.Machine

open Sys2Proof Sys2Proof.Machine

/-- Settles O54: the checks of subject and sender, and then each request by its own conditions. -/
theorem outletRequestsAct : Obligations.OutletRequestsAct := by
  refine ⟨fun c row a tag n args rest s hc hrow h hl => ?_, fun k a tag rest s ha => ?_⟩
  · obtain ⟨handle, hx⟩ := exec_outletRequest hc hrow h hl
    rw [hx]
    refine ⟨fun hn => next_of_refused (withOutlet_of_none ?_ _ _), ?_⟩
    · exact outletOf_of_ne hn
    · rintro k rfl h0 ho
      refine next_of_refused (withOutlet_of_stranger (s := s.unanswered rest) (k := k) ?_ ?_ _)
      · exact outletOf_numberByte k
      · exact not_or.2 ⟨h0, ho⟩
  · intro done wrong o
    refine ⟨fun h => exec_mask ha h, fun h => exec_unmask ha h, fun base code h => ⟨fun hlo hhi hc => ?_, fun hn => ?_⟩,
      fun h => ⟨fun hn => ?_, fun hm hst => ⟨fun hc => ?_, fun hc => ?_⟩⟩, fun h => ⟨fun hn => ?_, fun hj => ?_⟩⟩
    · rw [exec_setCrate ha h, if_pos ⟨hc, hlo, hhi⟩]
    · rw [exec_setCrate ha h, if_neg fun hv => hn ⟨hv.2.1, hv.2.2, hv.1⟩]
    · rw [exec_reloadCrate ha h, if_neg hn]
    · rw [exec_reloadCrate ha h, if_pos ⟨hm, hst⟩, freshCrate_opened (s := done 0x13) hc]
    · have ho : (done 0x13).outlets[k].state ≠ .opened := by
        intro ho
        rcases hst with hst | hst <;> exact absurd (hst.symm.trans ho) nofun
      rw [exec_reloadCrate ha h, if_pos ⟨hm, hst⟩, freshCrate_jammed ho hc]
      rfl
    · rw [exec_clearJam ha h, if_neg hn]
    · rw [exec_clearJam ha h, if_pos hj]
end

section
/-! SUPPORT. The reset of the routes that name an outlet at its owner change (R117, R123, R124). -/

namespace Sys2Proof.Machine

open Sys2Proof

variable {k : OutletId}

theorem foreign_iff {owner row : StationId} : foreign owner row = true ↔ owner ≠ 0 ∧ owner ≠ row := by
  rw [foreign, Bool.and_eq_true, bne_iff_ne, bne_iff_ne]

theorem RouteEntry.names_iff {e : RouteEntry} : e.names k = true ↔ e.primary = some k ∨ e.alternate = some k := by
  rw [RouteEntry.names, Bool.or_eq_true, beq_iff_eq, beq_iff_eq]

/-- A row names an outlet when the entry of some class does. -/
theorem RouteRow.any_names_iff (r : RouteRow) : (r.entries.toList.any fun e => e.names k) = true ↔
    ∃ c : Fin 11, r.entries[c].primary = some k ∨ r.entries[c].alternate = some k := by
  simp only [List.any_eq_true, RouteEntry.names_iff, Vector.mem_toList_iff, Vector.mem_iff_getElem]
  constructor
  · rintro ⟨_, ⟨i, hi, rfl⟩, hk⟩
    exact ⟨⟨i, hi⟩, hk⟩
  · rintro ⟨c, hk⟩
    exact ⟨_, ⟨c.val, c.isLt, rfl⟩, hk⟩

/-- A row is changed by the drop of an outlet that it names, and its revision raised once (R117). -/
theorem dropFromRow_revision (r : RouteRow) : (dropFromRow k r).revision =
    if ∃ c : Fin 11, r.entries[c].primary = some k ∨ r.entries[c].alternate = some k then r.revision + 1
    else r.revision := by
  rw [dropFromRow, apply_ite RouteRow.revision]
  exact if_congr r.any_names_iff rfl rfl

/-- An owner change drops the outlet from the rows it is foreign to, and from no other (R123). -/
theorem resetForeignRoutes_row (owner row : StationId) (s : State) : (resetForeignRoutes k owner s).routes[row] =
    if foreign owner row = true then dropFromRow k s.routes[row] else s.routes[row] := by
  rw [resetForeignRoutes, State.onRoutes_routes]
  exact Vector.getElem_ofFn _

end Sys2Proof.Machine

open Sys2Proof Sys2Proof.Machine

/-- Settles O29: a row is kept unless the outlet is foreign to it, and is then the row with the outlet dropped. -/
theorem ownerChangeResetsForeignRoutes : Obligations.OwnerChangeResetsForeignRoutes := by
  refine fun k owner s => ⟨rfl, fun row => ⟨fun hown => ?_, fun h0 hrow => ?_⟩⟩
  · rw [resetForeignRoutes_row, not_foreign_iff.2 hown]
    rfl
  · rw [resetForeignRoutes_row, if_pos (foreign_iff.2 ⟨h0, hrow⟩)]
    exact ⟨fun c => dropFromRow_entry _ c, dropFromRow_revision _⟩
end

section
/-! SUPPORT. SET ROUTE, taken and refused: its checks of subject, sender, value, owner and shape (R119 to R122). -/

namespace Sys2Proof.Machine

open Sys2Proof

variable {s : State} {row : StationId} {primary alternate : Option OutletId}

/-! ## Bytes that name nothing (R119) -/

theorem stationOf_of_gt {n : Nat} (h : 6 < n) : stationOf n = none := dif_neg (by omega)

theorem classArgument_of_gt {n : Nat} (h : 10 < n) : classArgument n = none := dif_neg (by omega)

theorem confidenceArgument_of_gt {n : Nat} (h : 15 < n) : confidenceArgument n = none := dif_neg (by omega)

theorem routeOutlet_of_gt {n : Nat} (h : 12 < n) : routeOutlet n = none := by
  have hn : outletOf n = none := dif_neg (by omega)
  rw [routeOutlet, if_neg (by omega), hn]
  rfl

/-! ## The checks of owner and shape (R120, R121) -/

/-- A route names an outlet that is foreign to its row (R120). -/
def NamesForeign (row : StationId) (primary alternate : Option OutletId) (s : State) : Prop :=
  ∃ k, (primary = some k ∨ alternate = some k) ∧ s.outlets[k].owner ≠ 0 ∧ s.outlets[k].owner ≠ row

/-- None of the five conditions of R121 holds of a route: an alternate comes with a primary, the outlets named are
placed, and the alternate is another outlet that lies farther along the belt. -/
def ShapeAllowed (primary alternate : Option OutletId) (s : State) : Prop :=
  (primary = none → alternate = none) ∧
  (∀ k, primary = some k ∨ alternate = some k → s.timing[k].offset ≠ none) ∧
  ∀ i j di dj, primary = some i → alternate = some j → s.timing[i].offset = some di → s.timing[j].offset = some dj →
    j ≠ i ∧ di < dj

theorem namesForeign_iff : ((namedOutlets primary alternate).any fun k => foreign s.outlets[k].owner row) = true ↔
    NamesForeign row primary alternate s := by
  simp only [namedOutlets, NamesForeign, List.any_eq_true, foreign_iff, List.mem_append, Option.mem_toList]

theorem routeShape_both_iff {p a : OutletId} : routeShape (some p) (some a) s = true ↔
    ∃ dp da, s.timing[p].offset = some dp ∧ s.timing[a].offset = some da ∧ a ≠ p ∧ dp < da := by
  unfold routeShape
  dsimp only
  split
  · next dp da hp ha =>
    rw [Bool.and_eq_true, bne_iff_ne, decide_eq_true_iff]
    refine ⟨fun h => ⟨dp, da, hp, ha, h⟩, ?_⟩
    rintro ⟨di, dj, hi, hj, h⟩
    cases hp.symm.trans hi
    cases ha.symm.trans hj
    exact h
  · next hn => exact iff_of_false nofun fun ⟨dp, da, hp, ha, _⟩ => hn dp da hp ha

theorem routeShape_iff : routeShape primary alternate s = true ↔ ShapeAllowed primary alternate s := by
  cases primary with
  | none => cases alternate <;> simp [routeShape, ShapeAllowed]
  | some p =>
    cases alternate with
    | none => simp [routeShape, ShapeAllowed, Option.isSome_iff_ne_none]
    | some a =>
      rw [routeShape_both_iff]
      constructor
      · rintro ⟨dp, da, hp, ha, h⟩
        refine ⟨nofun, ?_, ?_⟩
        · rintro k (hk | hk) <;> cases hk
          · exact hp ▸ nofun
          · exact ha ▸ nofun
        · rintro i j di dj hi hj hdi hdj
          cases hi
          cases hj
          cases hp.symm.trans hdi
          cases ha.symm.trans hdj
          exact h
      · rintro ⟨-, hplaced, h⟩
        obtain ⟨dp, hp⟩ := Option.ne_none_iff_exists'.1 (hplaced p (.inl rfl))
        obtain ⟨da, ha⟩ := Option.ne_none_iff_exists'.1 (hplaced a (.inr rfl))
        exact ⟨dp, da, hp, ha, h p a dp da rfl rfl hp ha⟩

/-! ## The handler, check by check -/

section

variable (q : Request)

theorem handleSetRoute_of_subject (h : stationOf (q.byte 2) = none ∨ classArgument (q.byte 3) = none) (s : State) :
    handleSetRoute q s = respond q .badValue [] s := by
  unfold handleSetRoute
  split
  · next hr hc =>
    rcases h with h | h
    · cases hr.symm.trans h
    · cases hc.symm.trans h
  · rfl

variable {c : Fin 11} (hr : stationOf (q.byte 2) = some row) (hc : classArgument (q.byte 3) = some c)
include hr hc

theorem handleSetRoute_of_sender (ha : ¬ (q.station = 0 ∨ q.station = row)) (s : State) :
    handleSetRoute q s = respond q .notYours [] s := by
  simp only [handleSetRoute, hr, hc, if_neg ha]

variable (ha : q.station = 0 ∨ q.station = row)
include ha

theorem handleSetRoute_of_value (h : routeOutlet (q.byte 4) = none ∨ routeOutlet (q.byte 5) = none ∨
    confidenceArgument (q.byte 6) = none) (s : State) : handleSetRoute q s = respond q .badValue [] s := by
  simp only [handleSetRoute, hr, hc, if_pos ha]
  split
  · next hp hq hm =>
    rcases h with h | h | h
    · cases hp.symm.trans h
    · cases hq.symm.trans h
    · cases hm.symm.trans h
  · rfl

variable {conf : Confidence} (hp : routeOutlet (q.byte 4) = some primary) (hq : routeOutlet (q.byte 5) = some alternate)
  (hm : confidenceArgument (q.byte 6) = some conf)
include hp hq hm

theorem handleSetRoute_of_foreign (hf : NamesForeign row primary alternate s) :
    handleSetRoute q s = respond q .notYours [] s := by
  simp only [handleSetRoute, hr, hc, hp, hq, hm, if_pos ha, if_pos (namesForeign_iff.2 hf)]

variable (hf : ¬ NamesForeign row primary alternate s)
include hf

theorem handleSetRoute_of_shape (hs : ¬ ShapeAllowed primary alternate s) :
    handleSetRoute q s = respond q .badRoute [] s := by
  simp only [handleSetRoute, hr, hc, hp, hq, hm, if_pos ha, if_neg (mt namesForeign_iff.1 hf),
    if_neg (mt routeShape_iff.1 hs)]

theorem handleSetRoute_of_taken (hs : ShapeAllowed primary alternate s) : handleSetRoute q s =
    writeRoute row c { primary := primary, alternate := alternate, minConfidence := conf }
      (respond q .done (bytes2 (s.routes[row].revision + 1).toNat) s) := by
  simp only [handleSetRoute, hr, hc, hp, hq, hm, if_pos ha, if_neg (mt namesForeign_iff.1 hf),
    if_pos (routeShape_iff.2 hs)]

end

/-! ## The command -/

theorem exec_setRoute {a : StationId} {tag r c p b m : Byte} {rest : List Request}
    (h : s.asked a [0x18, tag, r, c, p, b, m] rest) : exec .setRoute s =
      .next (handleSetRoute { station := a, data := [0x18, tag, r, c, p, b, m] } (s.unanswered rest)) :=
  congrArg Host.Outcome.next (takeRequest_asked (code := 0x18) h handleSetRoute rfl nofun)

end Sys2Proof.Machine

open Sys2Proof Sys2Proof.Machine

/-- Settles O55: the checks in their order, and the entry that a taken SET ROUTE writes. -/
theorem setRouteWritesTheEntry : Obligations.SetRouteWritesTheEntry := by
  intro station tag r c p a m rest s h
  let q : Request := { station := station, data := [0x18, tag, r, c, p, a, m] }
  rw [exec_setRoute h]
  refine ⟨fun hbad => ?_, fun row cls hrow hcls => ?_⟩
  · exact next_of_refused
      (handleSetRoute_of_subject q (hbad.imp (fun h => stationOf_of_gt h) fun h => classArgument_of_gt h) _)
  have hr : stationOf (q.byte 2) = some row := (stationOf_eq _ _).2 hrow
  have hc : classArgument (q.byte 3) = some cls := (classArgument_eq _ _).2 hcls
  refine ⟨fun h0 hown => next_of_refused (handleSetRoute_of_sender q hr hc (not_or.2 ⟨h0, hown⟩) _), fun ha => ?_⟩
  refine ⟨fun hbad => ?_, fun primary alternate conf hp hq hm => ?_⟩
  · exact next_of_refused (handleSetRoute_of_value q hr hc ha
      (hbad.imp (fun h => routeOutlet_of_gt h)
        (Or.imp (fun h => routeOutlet_of_gt h) fun h => confidenceArgument_of_gt h)) _)
  have hp : routeOutlet (q.byte 4) = some primary := (routeOutlet_eq _ _).2 hp
  have hq : routeOutlet (q.byte 5) = some alternate := (routeOutlet_eq _ _).2 hq
  have hm : confidenceArgument (q.byte 6) = some conf := (confidenceArgument_eq _ _).2 hm
  refine ⟨fun hf => ?_, fun hf hs => ?_, fun hf hs => ?_⟩
  · exact next_of_refused (handleSetRoute_of_foreign q hr hc ha hp hq hm hf)
  · exact next_of_refused (handleSetRoute_of_shape q hr hc ha hp hq hm hf hs)
  · refine congrArg Host.Outcome.next
      ((handleSetRoute_of_taken q hr hc ha hp hq hm (s := s.unanswered rest) hf hs).trans ?_)
    rw [respond_unanswered]
    rfl
end

section
/-! SUPPORT. The settle time's expiry, and the samples that give no verdict (R128, R134, R135, R138). -/

namespace Sys2Proof.Machine

open Sys2Proof

variable {c : ChannelId} {above shown : Bool} {s : State} {t : Nat}

theorem State.onChannel_onChannel (c : ChannelId) (f g : Channel → Channel) (s : State) :
    (s.onChannel c f).onChannel c g = s.onChannel c fun ch => g (f ch) := by
  simp [State.onChannel]

theorem scheduleSample_get (c : ChannelId) (s : State) : (scheduleSample c s).channels[c] =
    { s.channels[c] with nextSample := some (s.now + s.channels[c].period) } :=
  (State.onChannel_get s c c _).trans (if_pos rfl)

/-! ## The settle time's expiry (R134) -/

theorem exec_settleTimeExpiry_due (hs : s.channels[c].state = .settling) (he : s.channels[c].settleEnd = some t)
    (ht : t ≤ s.now) : exec (.settleTimeExpiry c) s = .next (s.onChannel c fun ch =>
      { ch with state := .samplingFirst, settleEnd := none, firstRun := none,
                nextSample := some (s.now + ch.period) }) := by
  simp only [exec, execSettleTimeExpiry, hs, he, if_pos ht, scheduleSample, State.onChannel_onChannel]
  rfl

theorem exec_settleTimeExpiry_early (hs : s.channels[c].state = .settling) (he : s.channels[c].settleEnd = some t)
    (ht : s.now < t) : exec (.settleTimeExpiry c) s = .next s := by
  simp only [exec, execSettleTimeExpiry, hs, he, if_neg (not_le.2 ht)]

theorem exec_settleTimeExpiry_idle (h : s.channels[c].state ≠ .settling ∨ s.channels[c].settleEnd = none) :
    exec (.settleTimeExpiry c) s = .next s := by
  simp only [exec, execSettleTimeExpiry]
  split
  · next hs he =>
    rcases h with h | h
    · exact absurd hs h
    · cases he.symm.trans h
  · rfl

/-! ## The run of a sample (R135, R138) -/

/-- An empty run and a run of the other candidate start again at 1. -/
theorem firstRunAfter_restarts {run : Option (Bool × Nat)} (h : run = none ∨ ∃ n, run = some (!shown, n)) :
    firstRunAfter shown run = (shown, 1) := by
  rcases h with rfl | ⟨n, rfl⟩
  · rfl
  · exact if_neg (by simp)

theorem firstRunAfter_agrees (shown : Bool) (n : Nat) : firstRunAfter shown (some (shown, n)) = (shown, n + 1) :=
  if_pos rfl

theorem sampleFirst_short {run : Bool × Nat} (h : firstRunAfter shown s.channels[c].firstRun = run) (hn : run.2 < 3) :
    sampleFirst c shown s = s.onChannel c fun ch => { ch with firstRun := some run } := by
  simp only [sampleFirst, h, if_neg (not_le.2 hn)]

theorem sampleWatching_agrees (h : shown = s.channels[c].detected) :
    sampleWatching c shown s = s.onChannel c fun ch => { ch with opposing := 0 } :=
  if_pos h

theorem sampleWatching_opposes (h : shown ≠ s.channels[c].detected) (hn : s.channels[c].opposing < 2) :
    sampleWatching c shown s = s.onChannel c fun ch => { ch with opposing := ch.opposing + 1 } :=
  (if_neg h).trans (if_pos hn)

/-! ## The sample instant (R134) -/

theorem exec_channelSample_early (h : ∀ t, s.channels[c].nextSample = some t → s.now < t) :
    exec (.channelSample c above) s = .next s := by
  simp only [exec, execChannelSample]
  split
  · rfl
  · next t ht => exact if_neg (not_le.2 (h t ht))

section

variable (hn : s.channels[c].nextSample = some t) (ht : t ≤ s.now)
include hn ht

theorem exec_channelSample_first (hs : s.channels[c].state = .samplingFirst) : exec (.channelSample c above) s =
    .next (driveOutputs (sampleFirst c (showsCondition c above) (scheduleSample c s))) := by
  simp only [exec, execChannelSample, hn, if_pos ht, hs]

theorem exec_channelSample_watching (hs : s.channels[c].state = .watching) : exec (.channelSample c above) s =
    .next (driveOutputs (sampleWatching c (showsCondition c above) (scheduleSample c s))) := by
  simp only [exec, execChannelSample, hn, if_pos ht, hs]

/-- A sample that leaves the first run short of three is counted in it. -/
theorem exec_channelSample_short (hs : s.channels[c].state = .samplingFirst) {run : Bool × Nat}
    (hr : firstRunAfter (showsCondition c above) s.channels[c].firstRun = run) (h3 : run.2 < 3) :
    exec (.channelSample c above) s =
      .next (driveOutputs ((scheduleSample c s).onChannel c fun ch => { ch with firstRun := some run })) := by
  rw [exec_channelSample_first hn ht hs, sampleFirst_short (by rw [scheduleSample_get]; exact hr) h3]

theorem exec_channelSample_agrees (hs : s.channels[c].state = .watching)
    (hd : showsCondition c above = s.channels[c].detected) : exec (.channelSample c above) s =
      .next (driveOutputs ((scheduleSample c s).onChannel c fun ch => { ch with opposing := 0 })) := by
  rw [exec_channelSample_watching hn ht hs, sampleWatching_agrees (by rw [scheduleSample_get]; exact hd)]

theorem exec_channelSample_opposes (hs : s.channels[c].state = .watching)
    (hd : showsCondition c above ≠ s.channels[c].detected) (h2 : s.channels[c].opposing < 2) :
    exec (.channelSample c above) s =
      .next (driveOutputs ((scheduleSample c s).onChannel c fun ch => { ch with opposing := ch.opposing + 1 })) := by
  rw [exec_channelSample_watching hn ht hs, sampleWatching_opposes] <;> rw [scheduleSample_get]
  · exact hd
  · exact h2

end

end Sys2Proof.Machine

open Sys2Proof Sys2Proof.Machine

/-- Settles O44: the expiry by what is due, and a sample by the state of its channel and the run it leaves. -/
theorem channelSamplesAreCounted : Obligations.ChannelSamplesAreCounted := by
  intro c above s ch shown
  refine ⟨fun hs t he => ⟨exec_settleTimeExpiry_due hs he, exec_settleTimeExpiry_early hs he⟩,
    exec_settleTimeExpiry_idle, fun t hn ht => ⟨fun hs => ⟨fun hr => ?_, fun n hr h2 => ?_⟩, fun hs =>
      ⟨exec_channelSample_agrees hn ht hs, exec_channelSample_opposes hn ht hs⟩⟩, exec_channelSample_early⟩
  · exact exec_channelSample_short hn ht hs (firstRunAfter_restarts hr) (show 1 < 3 by decide)
  · have hlonger : firstRunAfter shown ch.firstRun = (shown, n + 1) := by rw [hr, firstRunAfter_agrees]
    exact exec_channelSample_short hn ht hs hlonger (Nat.succ_lt_succ h2)
end

section
/-! SUPPORT. SET CHANNEL, ENABLE CHANNEL and CHANNEL OFF, taken and refused (R130 to R133, R139, R141). -/

namespace Sys2Proof.Machine

open Sys2Proof

variable {s : State} {c : ChannelId} {rest : List Request} {a : StationId} {tag : Byte}

/-! ## The checks of subject and sender (R131) -/

theorem withChannel_of_none {q : Request} (hc : channelOf (q.byte 2) = none) (handle : ChannelId → State → State)
    (s : State) : withChannel q handle s = respond q .badValue [] s := by
  simp only [withChannel, hc]

theorem withChannel_of_stranger {q : Request} (hc : channelOf (q.byte 2) = some c)
    (ha : ¬ (q.station = 0 ∨ q.station = channelOwner c s)) (handle : ChannelId → State → State) :
    withChannel q handle s = respond q .notYours [] s := by
  simp only [withChannel, hc, if_neg ha]

theorem withChannel_of_entitled {q : Request} (hc : channelOf (q.byte 2) = some c)
    (ha : q.station = 0 ∨ q.station = channelOwner c s) (handle : ChannelId → State → State) :
    withChannel q handle s = handle c s := by
  simp only [withChannel, hc, if_pos ha]

/-- The three requests to a channel make these checks first. -/
theorem exec_channelRequest {cmd : Instr} {row : RequestRow} {n : Byte} {args : List Byte}
    (hcmd : cmd ∈ [Instr.setChannel, .enableChannel, .channelOff]) (hrow : requestRow cmd = some row)
    (h : s.asked a (row.code :: tag :: n :: args) rest) (hl : args.length + 3 = row.length) :
    ∃ handle, exec cmd s = .next
      (withChannel { station := a, data := row.code :: tag :: n :: args } handle (s.unanswered rest)) := by
  have hl' : (n :: args).length + 2 = row.length := hl
  simp only [List.mem_cons, List.not_mem_nil, or_false] at hcmd
  rcases hcmd with rfl | rfl | rfl <;> cases hrow
  · exact ⟨_, congrArg Host.Outcome.next (takeRequest_asked h handleSetChannel hl' nofun)⟩
  · exact ⟨_, congrArg Host.Outcome.next (takeRequest_asked h handleEnableChannel hl' nofun)⟩
  · exact ⟨_, congrArg Host.Outcome.next (takeRequest_asked h handleChannelOff hl' nofun)⟩

/-- A request to a channel from its owner or station 0 is carried out on the state with the request taken. -/
theorem exec_channelEntitled {cmd : Instr} {code : Byte} {args : List Byte}
    {f : Request → ChannelId → State → State} {length : Nat}
    (hcmd : exec cmd s = .next (takeRequest code.toNat length false (fun q s => withChannel q (f q) s) s))
    (h : s.asked a (code :: tag :: numberByte c :: args) rest) (hl : args.length + 3 = length)
    (ha : a = 0 ∨ a = channelOwner c s) : exec cmd s =
      .next (f { station := a, data := code :: tag :: numberByte c :: args } c (s.unanswered rest)) := by
  have hl' : (numberByte c :: args).length + 2 = length := hl
  rw [hcmd, takeRequest_asked (linkOnly := false) h _ hl' nofun]
  refine congrArg Host.Outcome.next (withChannel_of_entitled ?_ ha _)
  exact channelOf_numberByte c

/-! ## The settings of a channel (R130, R132) -/

theorem ChannelMode.ofCode_eq (n : Nat) (mode : ChannelMode) : ChannelMode.ofCode n = some mode ↔ n = mode.code := by
  unfold ChannelMode.ofCode
  split <;> cases mode <;> simp_all [ChannelMode.code]

theorem ChannelMode.code_le (mode : ChannelMode) : mode.code ≤ 2 := by
  cases mode <;> decide

theorem NoticeEdges.ofCode_eq (n : Nat) (edges : NoticeEdges) : NoticeEdges.ofCode n = some edges ↔ n = edges.code := by
  unfold NoticeEdges.ofCode
  split <;> cases edges <;> simp_all [NoticeEdges.code]

theorem NoticeEdges.code_le (edges : NoticeEdges) : edges.code ≤ 3 := by
  cases edges <;> decide

theorem samplePeriod_byte (p : Byte) : p.toNat ∈ [4, 8, 16, 32] ↔ p = 4 ∨ p = 8 ∨ p = 16 ∨ p = 32 := by
  revert p
  decide

theorem codesAllowed_iff (c : ChannelId) (trip release : Nat) : codesAllowed c trip release = true ↔
    if c = airChannel then trip ≤ release else release ≤ trip := by
  unfold codesAllowed
  split <;> exact decide_eq_true_iff

/-- The checks of value of a SET CHANNEL: its mode, its notice edges, its period and its codes. -/
def ChannelValuesAllow (c : ChannelId) (m trip release period edges : Byte) : Prop :=
  m.toNat ≤ 2 ∧ edges.toNat ≤ 3 ∧ (period = 4 ∨ period = 8 ∨ period = 16 ∨ period = 32) ∧
    if c = airChannel then trip.toNat ≤ release.toNat else release.toNat ≤ trip.toNat

/-- A fill probe probes a HANDOFF outlet when the outlet of its number is in that mode (R133). -/
theorem probesHandoff_iff (c : ChannelId) (s : State) :
    probesHandoff c s = true ↔ ∃ k : OutletId, k.val = c.val ∧ s.outlets[k].mode = .handoff := by
  unfold probesHandoff probedOutlet
  by_cases hc : c.val < 12
  · simp only [dif_pos hc, beq_iff_eq]
    refine ⟨fun hm => ⟨⟨c.val, hc⟩, rfl, hm⟩, ?_⟩
    rintro ⟨k, hk, hm⟩
    cases (Fin.ext hk : k = ⟨c.val, hc⟩)
    exact hm
  · simp only [dif_neg hc]
    exact iff_of_false nofun fun ⟨k, hk, _⟩ => hc (hk ▸ k.isLt)

/-! ## A release leaves the channels (R139) -/

theorem copyDetected_channels (c : ChannelId) (detected : Bool) (s : State) :
    (copyDetected c detected s).channels = s.channels := by
  unfold copyDetected
  split
  · rfl
  · split <;> rfl

theorem handRelease_channels (c : ChannelId) (s : State) : (handRelease c s).channels = s.channels := by
  unfold handRelease
  dsimp only
  split
  · exact (examine_diversion _).channels.trans (copyDetected_channels c false s)
  · exact copyDetected_channels c false s

theorem handRelease_eq (c : ChannelId) (s : State) : handRelease c s =
    if c = airChannel then
      examine ((s.onLine fun l => { l with airCopy := false }).onAir fun a => { a with airWait := false })
    else if c = resChannel then s.onLine fun l => { l with resCopy := false }
    else s := by
  unfold handRelease copyDetected
  split <;> rfl

/-! ## The three requests, taken -/

section

variable (ha : a = 0 ∨ a = channelOwner c s)
include ha

/-! ### SET CHANNEL (R130, R132) -/

section

variable {m trip release period edges : Byte}
  (h : s.asked a [0x20, tag, numberByte c, m, trip, release, period, edges] rest)
include h

theorem exec_setChannel_moved (hs : s.channels[c].state ≠ .off) :
    exec .setChannel s = .next (s.taken rest (answer a 0x20 tag .wrongState noResults)) := by
  rw [exec_channelEntitled rfl h rfl ha]
  exact next_of_refused (if_neg hs)

theorem exec_setChannel_off (hs : s.channels[c].state = .off) : exec .setChannel s = .next
    (match ChannelMode.ofCode m.toNat, NoticeEdges.ofCode edges.toNat with
    | some mode, some edge =>
      if codesAllowed c trip.toNat release.toNat ∧ period.toNat ∈ [4, 8, 16, 32] then
        (s.taken rest (answer a 0x20 tag .done noResults)).onChannel c fun ch =>
          { ch with
            mode := mode, trip := trip.toNat, release := release.toNat, period := period.toNat, edges := edge }
      else s.taken rest (answer a 0x20 tag .badValue noResults)
    | _, _ => s.taken rest (answer a 0x20 tag .badValue noResults)) := by
  rw [exec_channelEntitled rfl h rfl ha, respond_unanswered, respond_unanswered]
  exact congrArg Host.Outcome.next (if_pos hs)

theorem exec_setChannel_bad (hs : s.channels[c].state = .off)
    (hbad : ¬ ChannelValuesAllow c m trip release period edges) :
    exec .setChannel s = .next (s.taken rest (answer a 0x20 tag .badValue noResults)) := by
  rw [exec_setChannel_off ha h hs]
  split
  · next mode edge hm he =>
    rw [ChannelMode.ofCode_eq] at hm
    rw [NoticeEdges.ofCode_eq] at he
    rw [if_neg]
    rintro ⟨hcodes, hperiod⟩
    exact hbad ⟨hm ▸ mode.code_le, he ▸ edge.code_le, (samplePeriod_byte period).1 hperiod,
      (codesAllowed_iff ..).1 hcodes⟩
  · rfl

theorem exec_setChannel_taken (hs : s.channels[c].state = .off) {mode : ChannelMode} {edge : NoticeEdges}
    (hm : m.toNat = mode.code) (he : edges.toNat = edge.code)
    (hperiod : period = 4 ∨ period = 8 ∨ period = 16 ∨ period = 32)
    (hcodes : if c = airChannel then trip.toNat ≤ release.toNat else release.toNat ≤ trip.toNat) :
    exec .setChannel s = .next ((s.taken rest (answer a 0x20 tag .done noResults)).onChannel c fun ch =>
      { ch with
        mode := mode, trip := trip.toNat, release := release.toNat, period := period.toNat, edges := edge }) := by
  rw [exec_setChannel_off ha h hs, (ChannelMode.ofCode_eq _ _).2 hm, (NoticeEdges.ofCode_eq _ _).2 he]
  exact congrArg Host.Outcome.next
    (if_pos ⟨(codesAllowed_iff ..).2 hcodes, (samplePeriod_byte period).2 hperiod⟩)

end

/-! ### ENABLE CHANNEL (R133) -/

theorem exec_enableChannel (h : s.asked a [0x21, tag, numberByte c] rest) : exec .enableChannel s = .next
    (if s.channels[c].state = .off ∧ probesHandoff c s = false then
      (s.taken rest (answer a 0x21 tag .done noResults)).onChannel c fun ch =>
        { ch with state := .settling, settleEnd := some (s.now + 64) }
    else s.taken rest (answer a 0x21 tag .wrongState noResults)) := by
  rw [exec_channelEntitled rfl h rfl ha, respond_unanswered, respond_unanswered]
  rfl

/-! ### CHANNEL OFF (R139, R141) -/

theorem exec_channelOff (h : s.asked a [0x22, tag, numberByte c] rest) : exec .channelOff s = .next
    (if s.channels[c].state = .watching ∧ s.channels[c].detected = true then
      driveOutputs (raiseNotice (.channel c .stoppedWhileDetected s.channels[c].trip s.channels[c].release)
        (handRelease c ((s.taken rest (answer a 0x22 tag .done noResults)).onChannel c fun ch =>
          { ch.turnedOff with lastVerdict := .clear })))
    else (s.taken rest (answer a 0x22 tag .done noResults)).onChannel c Channel.turnedOff) := by
  have hch (v : State) : (handRelease c (v.onChannel c fun ch =>
      { ch.turnedOff with lastVerdict := .clear })).channels[c] =
        { v.channels[c].turnedOff with lastVerdict := .clear } := by
    rw [handRelease_channels, State.onChannel_get, if_pos rfl]
  rw [exec_channelEntitled rfl h rfl ha, respond_unanswered]
  dsimp only [noticeChannel]
  rw [hch]
  rfl

end

end Sys2Proof.Machine

open Sys2Proof Sys2Proof.Machine

/-- Settles O56: the checks of subject and sender, and then each request by its own conditions. -/
theorem channelRequestsAct : Obligations.ChannelRequestsAct := by
  refine ⟨fun cmd row a tag n args rest s hcmd hrow h hl => ?_, fun c a tag rest s ha => ?_⟩
  · obtain ⟨handle, hx⟩ := exec_channelRequest hcmd hrow h hl
    rw [hx]
    refine ⟨fun hn => next_of_refused (withChannel_of_none ?_ _ _), ?_⟩
    · exact channelOf_of_ne hn
    · rintro c rfl h0 ho
      refine next_of_refused (withChannel_of_stranger (s := s.unanswered rest) (c := c) ?_ ?_ _)
      · exact channelOf_numberByte c
      · exact not_or.2 ⟨h0, ho⟩
  · intro done refused ch
    refine ⟨fun m trip release period edges h => ?_, fun h => ?_, fun h => ?_⟩
    · exact ⟨exec_setChannel_moved ha h, exec_setChannel_bad ha h,
        fun mode edge hs hm he hperiod hcodes => exec_setChannel_taken ha h hs hm he hperiod hcodes⟩
    · intro handoff
      rw [exec_enableChannel ha h]
      refine ⟨fun hbad => ?_, fun hs hno => ?_⟩
      · rw [if_neg]
        rintro ⟨hs, hno⟩
        rcases hbad with hbad | hprobe
        · exact hbad hs
        · exact absurd ((probesHandoff_iff c s).2 hprobe) (hno ▸ nofun)
      · rw [if_pos ⟨hs, eq_false_of_ne_true (mt (probesHandoff_iff c s).1 hno)⟩]
    · intro off
      rw [exec_channelOff ha h]
      refine ⟨fun hno => ?_, fun hs hd => ?_⟩
      · rw [if_neg hno]
        rfl
      · intro v released
        have hv : (done 0x22).onChannel c (fun ch => { ch.turnedOff with lastVerdict := .clear }) = v :=
          (State.onChannel_onChannel c Channel.turnedOff (fun ch => { ch with lastVerdict := .clear }) _).symm
        have hreleased : handRelease c v = released := handRelease_eq c v
        rw [if_pos ⟨hs, hd⟩, ← hreleased, ← hv]
end

section
/-! SUPPORT. Adds to an accumulator: the cases of the exact sum, and the ranges they keep (R144, R146, R147). -/

namespace Sys2Proof.Machine

open Sys2Proof

variable {mode : BalanceMode} {amount : Int} {a : Accumulator}

/-! ## The cases of an add -/

/-- The exact sum of an add lies in the range of a value, above it, or below it. -/
theorem sum_cases (v amount : Int) :
    (-32768 ≤ v + amount ∧ v + amount ≤ 32767) ∨ 32767 < v + amount ∨ v + amount < -32768 := by omega

theorem addAmount_of_within (hlo : -32768 ≤ a.value + amount) (hhi : a.value + amount ≤ 32767) :
    addAmount mode amount a = { a with value := a.value + amount } := by
  simp only [addAmount, if_neg (not_lt.2 hhi), if_neg (not_lt.2 hlo)]

theorem addAmount_saturate_of_above (h : 32767 < a.value + amount) :
    addAmount .saturate amount a = { a with value := 32767, overFlag := true } := if_pos h

theorem addAmount_wrap_of_above (h : 32767 < a.value + amount) : addAmount .wrap amount a =
    { a with value := a.value + amount - 65536, excursion := min (a.excursion + 1) 31, overFlag := true } := if_pos h

theorem addAmount_saturate_of_below (h : a.value + amount < -32768) :
    addAmount .saturate amount a = { a with value := -32768, overFlag := true } := by
  have hno : ¬ 32767 < a.value + amount := by omega
  exact (if_neg hno).trans (if_pos h)

theorem addAmount_wrap_of_below (h : a.value + amount < -32768) : addAmount .wrap amount a =
    { a with value := a.value + amount + 65536, excursion := max (a.excursion - 1) (-32), overFlag := true } := by
  have hno : ¬ 32767 < a.value + amount := by omega
  exact (if_neg hno).trans (if_pos h)

theorem addAmount_aboveFlag (mode : BalanceMode) (amount : Int) (a : Accumulator) :
    (addAmount mode amount a).aboveFlag = a.aboveFlag := by
  rcases sum_cases a.value amount with ⟨h1, h2⟩ | h1 | h1
  · rw [addAmount_of_within h1 h2]
  · cases mode with
    | saturate => rw [addAmount_saturate_of_above h1]
    | wrap => rw [addAmount_wrap_of_above h1]
  · cases mode with
    | saturate => rw [addAmount_saturate_of_below h1]
    | wrap => rw [addAmount_wrap_of_below h1]

/-- The over flag is set by a sum out of range, and stays set (R146, R147). -/
theorem addAmount_overFlag (mode : BalanceMode) (amount : Int) (a : Accumulator) :
    (addAmount mode amount a).overFlag = true ↔
      a.overFlag = true ∨ 32767 < a.value + amount ∨ a.value + amount < -32768 := by
  rcases sum_cases a.value amount with ⟨h1, h2⟩ | h1 | h1
  · rw [addAmount_of_within h1 h2]
    exact ⟨.inl, fun h => h.resolve_right (by omega)⟩
  · refine iff_of_true ?_ (.inr (.inl h1))
    cases mode with
    | saturate => rw [addAmount_saturate_of_above h1]
    | wrap => rw [addAmount_wrap_of_above h1]
  · refine iff_of_true ?_ (.inr (.inr h1))
    cases mode with
    | saturate => rw [addAmount_saturate_of_below h1]
    | wrap => rw [addAmount_wrap_of_below h1]

/-- In SATURATE the exact sum is clamped and the excursion kept (R146). -/
theorem addAmount_saturate (amount : Int) (a : Accumulator) :
    (addAmount .saturate amount a).value = max (-32768) (min 32767 (a.value + amount)) ∧
      (addAmount .saturate amount a).excursion = a.excursion := by
  rcases sum_cases a.value amount with ⟨h1, h2⟩ | h1 | h1
  · rw [addAmount_of_within h1 h2]
    exact ⟨by dsimp only; omega, rfl⟩
  · rw [addAmount_saturate_of_above h1]
    exact ⟨by dsimp only; omega, rfl⟩
  · rw [addAmount_saturate_of_below h1]
    exact ⟨by dsimp only; omega, rfl⟩

/-- In WRAP the true balance is kept unless the excursion is held at its end (R147). -/
theorem addAmount_wrap_balance (hup : a.excursion < 31 ∨ a.value + amount ≤ 32767)
    (hdown : -32 < a.excursion ∨ -32768 ≤ a.value + amount) :
    (addAmount .wrap amount a).value + 65536 * (addAmount .wrap amount a).excursion =
      a.value + 65536 * a.excursion + amount := by
  rcases sum_cases a.value amount with ⟨h1, h2⟩ | h1 | h1
  · rw [addAmount_of_within h1 h2]
    dsimp only
    omega
  · rw [addAmount_wrap_of_above h1]
    dsimp only
    omega
  · rw [addAmount_wrap_of_below h1]
    dsimp only
    omega

/-- In WRAP the value is the exact sum modulo 65,536, held excursion or not (R147). -/
theorem addAmount_wrap_mod (amount : Int) (a : Accumulator) :
    (addAmount .wrap amount a).value % 65536 = (a.value + amount) % 65536 := by
  rcases sum_cases a.value amount with ⟨h1, h2⟩ | h1 | h1
  · rw [addAmount_of_within h1 h2]
  · rw [addAmount_wrap_of_above h1]
    dsimp only
    omega
  · rw [addAmount_wrap_of_below h1]
    dsimp only
    omega

/-! ## Ranges -/

/-- A value and an excursion are in range (R144). -/
structure Accumulator.InRange (a : Accumulator) : Prop where
  value_ge : -32768 ≤ a.value
  value_le : a.value ≤ 32767
  excursion_ge : -32 ≤ a.excursion
  excursion_le : a.excursion ≤ 31

/-- An add of an amount that a master or a return carries keeps the ranges: it leaves them by less than a value's range,
so one wrap suffices (R146, R147). -/
theorem Accumulator.InRange.addAmount (h : a.InRange) (hlo : -4095 ≤ amount) (hhi : amount ≤ 4095)
    (mode : BalanceMode) : (addAmount mode amount a).InRange := by
  obtain ⟨hvlo, hvhi, helo, hehi⟩ := h
  rcases sum_cases a.value amount with ⟨h1, h2⟩ | h1 | h1
  · rw [addAmount_of_within h1 h2]
    exact ⟨h1, h2, helo, hehi⟩
  · cases mode with
    | saturate =>
      rw [addAmount_saturate_of_above h1]
      exact ⟨by norm_num, by norm_num, helo, hehi⟩
    | wrap =>
      rw [addAmount_wrap_of_above h1]
      constructor <;> dsimp only <;> omega
  · cases mode with
    | saturate =>
      rw [addAmount_saturate_of_below h1]
      exact ⟨by norm_num, by norm_num, helo, hehi⟩
    | wrap =>
      rw [addAmount_wrap_of_below h1]
      constructor <;> dsimp only <;> omega

end Sys2Proof.Machine

open Sys2Proof Sys2Proof.Machine

/-- Settles O28, by the exact sum: within the range it is the value, and out of it the value is clamped or wraps. -/
theorem addsClampOrWrap : Obligations.AddsClampOrWrap := by
  intro mode amount a hvlo hvhi helo hehi hlo hhi b
  have hr : b.InRange := Accumulator.InRange.addAmount ⟨hvlo, hvhi, helo, hehi⟩ hlo hhi mode
  refine ⟨⟨hr.value_ge, hr.value_le, hr.excursion_ge, hr.excursion_le⟩, addAmount_aboveFlag mode amount a,
    addAmount_overFlag mode amount a, ?_, ?_, ?_⟩
  · rintro rfl
    exact addAmount_saturate amount a
  · rintro rfl hup hdown
    exact addAmount_wrap_balance hup hdown
  · rintro rfl
    exact addAmount_wrap_mod amount a
end

section
/-! SUPPORT. What an accumulator must be for the balances to be sound, and the changes that keep it so (R144, R145,
R152). -/

namespace Sys2Proof.Machine

open Sys2Proof

variable {s t : State} {c f : Fin 6}

/-! ## One accumulator -/

/-- An accumulator under a threshold: both in range, the above flag true (R144, R145, R152). -/
structure Accumulator.Sound (a : Accumulator) (threshold : Nat) : Prop extends a.InRange where
  threshold_le : threshold ≤ 32767
  above : a.aboveFlag = true ↔ (threshold : Int) < a.value

theorem balancesSound_iff (s : State) :
    BalancesSound s ↔ ∀ c f : Fin 6, (accountOf c f s).Sound (thresholdOf c f s) := by
  constructor
  · intro h c f
    obtain ⟨hvlo, hvhi, helo, hehi, ht, ha⟩ := h c f
    exact ⟨⟨hvlo, hvhi, helo, hehi⟩, ht, ha⟩
  · intro h c f
    obtain ⟨⟨hvlo, hvhi, helo, hehi⟩, ht, ha⟩ := h c f
    exact ⟨hvlo, hvhi, helo, hehi, ht, ha⟩

theorem Accumulator.InRange.evaluateAbove {a : Accumulator} (h : a.InRange) {threshold : Nat}
    (ht : threshold ≤ 32767) : (evaluateAbove threshold a).Sound threshold :=
  { h with threshold_le := ht, above := decide_eq_true_iff }

/-! ## Reads after a write -/

theorem accountOf_writeAccount_of_ne {d g : Fin 6} (hne : ¬ (d = c ∧ g = f)) (a : Accumulator) (s : State) :
    accountOf d g (writeAccount c f a s) = accountOf d g s := by
  unfold accountOf writeAccount
  rw [State.onBalance_get]
  by_cases hd : d = c
  · have hg : f.val ≠ g.val := fun hfg => hne ⟨hd, Fin.ext hfg.symm⟩
    simp [hd, hg]
  · rw [if_neg hd]

theorem thresholdOf_writeAccount_other (d g : Fin 6) (a : Accumulator) (s : State) :
    thresholdOf d g (writeAccount c f a s) = thresholdOf d g s := by
  unfold thresholdOf writeAccount
  rw [State.onBalance_get]
  split <;> rfl

/-- Write a threshold (R153). -/
def writeThreshold (c f : Fin 6) (threshold : Nat) (s : State) : State :=
  s.onBalance c fun b => { b with thresholds := b.thresholds.set f threshold }

theorem accountOf_writeThreshold (d g : Fin 6) (threshold : Nat) (s : State) :
    accountOf d g (writeThreshold c f threshold s) = accountOf d g s := by
  unfold accountOf writeThreshold
  rw [State.onBalance_get]
  split <;> rfl

theorem thresholdOf_writeThreshold (threshold : Nat) (s : State) :
    thresholdOf c f (writeThreshold c f threshold s) = threshold := by
  simp [thresholdOf, writeThreshold]

theorem thresholdOf_writeThreshold_of_ne {d g : Fin 6} (hne : ¬ (d = c ∧ g = f)) (threshold : Nat) (s : State) :
    thresholdOf d g (writeThreshold c f threshold s) = thresholdOf d g s := by
  unfold thresholdOf writeThreshold
  rw [State.onBalance_get]
  by_cases hd : d = c
  · have hg : f.val ≠ g.val := fun hfg => hne ⟨hd, Fin.ext hfg.symm⟩
    simp [hd, hg]
  · rw [if_neg hd]

/-! ## Changes that keep the balances sound -/

namespace BalancesSound

theorem of_balances (h : BalancesSound s) (hb : t.balances = s.balances) : BalancesSound t := by
  unfold BalancesSound
  rw [hb]
  exact h

theorem get (h : BalancesSound s) (c f : Fin 6) : (accountOf c f s).Sound (thresholdOf c f s) :=
  (balancesSound_iff s).1 h c f

/-- Another accumulator written leaves the rest sound, and whatever stood in its place is gone. -/
theorem written {a : Accumulator}
    (ho : ∀ d g : Fin 6, ¬ (d = c ∧ g = f) → (accountOf d g s).Sound (thresholdOf d g s))
    (ha : a.Sound (thresholdOf c f s)) : BalancesSound (writeAccount c f a s) := by
  refine (balancesSound_iff _).2 fun d g => ?_
  rw [thresholdOf_writeAccount_other]
  by_cases hne : d = c ∧ g = f
  · obtain ⟨rfl, rfl⟩ := hne
    rw [accountOf_writeAccount]
    exact ha
  · rw [accountOf_writeAccount_of_ne hne]
    exact ho d g hne

theorem writeAccount {a : Accumulator} (h : BalancesSound s) (ha : a.Sound (thresholdOf c f s)) :
    BalancesSound (writeAccount c f a s) := written (fun d g _ => h.get d g) ha

/-- A change of mode reaches no accumulator and no threshold (R154). -/
theorem setMode (h : BalancesSound s) (c : Fin 6) (mode : BalanceMode) :
    BalancesSound (s.onBalance c fun b => { b with mode := mode }) := by
  refine (balancesSound_iff _).2 fun d g => ?_
  have ha : accountOf d g (s.onBalance c fun b => { b with mode := mode }) = accountOf d g s := by
    unfold accountOf
    rw [State.onBalance_get]
    split <;> rfl
  have ht : thresholdOf d g (s.onBalance c fun b => { b with mode := mode }) = thresholdOf d g s := by
    unfold thresholdOf
    rw [State.onBalance_get]
    split <;> rfl
  rw [ha, ht]
  exact h.get d g

end BalancesSound

@[simp] theorem balances_raiseNotice (n : Notice) (s : State) : (raiseNotice n s).balances = s.balances := by
  obtain ⟨l, -, h⟩ := raiseNotice_onLink n s
  rw [h]

/-- The accumulator changed is evaluated against its threshold, so its above flag is true whatever it was (R152). -/
theorem changeAccount_sound {change : Accumulator → Accumulator}
    (ho : ∀ d g : Fin 6, ¬ (d = c ∧ g = f) → (accountOf d g s).Sound (thresholdOf d g s))
    (ht : thresholdOf c f s ≤ 32767) (hr : (change (accountOf c f s)).InRange) :
    BalancesSound (changeAccount c f change s) := by
  have hw := BalancesSound.written ho (hr.evaluateAbove ht)
  rw [changeAccount_eq]
  dsimp only
  split
  · exact hw.of_balances (balances_raiseNotice _ _)
  · exact hw

/-- A change that keeps the ranges. -/
theorem BalancesSound.changeAccount (h : BalancesSound s) {change : Accumulator → Accumulator}
    (hr : (change (accountOf c f s)).InRange) : BalancesSound (changeAccount c f change s) :=
  changeAccount_sound (fun d g _ => h.get d g) (h.get c f).threshold_le hr

/-- An add of an amount that a master or a return carries. -/
theorem BalancesSound.add (h : BalancesSound s) (c f : Fin 6) {amount : Int} (hlo : -4095 ≤ amount)
    (hhi : amount ≤ 4095) (mode : BalanceMode) : BalancesSound (Machine.changeAccount c f (addAmount mode amount) s) :=
  h.changeAccount ((h.get c f).toInRange.addAmount hlo hhi mode)

theorem BalancesSound.returnItem (h : BalancesSound s) (owner : StationId) (wareClass : WareClass) :
    BalancesSound (returnItem owner wareClass s) := by
  unfold Machine.returnItem
  split
  · exact h.add _ _ (by decide) (by decide) _
  · exact h

end Sys2Proof.Machine
end

section
/-! SUPPORT. The operations that leave every balance: notices, the line, diversions, pulses, outlets and channels. -/

namespace Sys2Proof.Machine

open Sys2Proof

variable {s t : State}

/-! ## Notices, responses and the line -/

/-- The balances of a state stand through the outputs, the notices and the cuts at the end of an event. -/
theorem balances_lineClosed (b : Vector Balance 6) : LineClosed fun s => s.balances = b where
  notice _ h := h
  line _ h := h
  ident _ h := h
  cut {s} k h := by
    unfold cutPulse
    split
    · exact h
    · exact (presentQuietly_diversion k _).balances.trans h

@[simp] theorem balances_respond (q : Request) (status : Status) (results : List Byte) (s : State) :
    (respond q status results s).balances = s.balances := rfl

@[simp] theorem balances_driveOutputs (s : State) : (driveOutputs s).balances = s.balances := rfl

@[simp] theorem balances_moveLine (new : LineState) (cause : LineCause) (s : State) :
    (moveLine new cause s).balances = s.balances := (balances_lineClosed _).moveLine new cause rfl

@[simp] theorem balances_haltLine (cause : LineCause) (s : State) : (haltLine cause s).balances = s.balances :=
  (balances_lineClosed _).haltLine cause rfl

@[simp] theorem balances_cutPulses (s : State) : (cutPulses s).balances = s.balances :=
  (balances_lineClosed _).cutPulses rfl

@[simp] theorem balances_raiseReverse (s : State) : (raiseReverse s).balances = s.balances :=
  (balances_lineClosed _).raiseReverse rfl

@[simp] theorem balances_settleLine (s : State) : (settleLine s).balances = s.balances :=
  (balances_lineClosed _).settleLine rfl

@[simp] theorem balances_handOnOverflow (i : Nat) (n : DeviceCount) (s : State) :
    (handOnOverflow i n s).balances = s.balances := by
  unfold handOnOverflow overflowOccurrence
  split
  · split <;> simp
  · rfl

@[simp] theorem balances_discardItems (s : State) : (discardItems s).balances = s.balances := rfl

@[simp] theorem balances_initializeBlocks (s : State) : (initializeBlocks s).balances = s.balances := rfl

/-! ## Diversions and pulses -/

@[simp] theorem balances_examine (s : State) : (examine s).balances = s.balances := (examine_diversion s).balances

@[simp] theorem balances_reportLoss (k : OutletId) (before : Bool) (s : State) :
    (reportLoss present k before s).balances = s.balances :=
  (reportLoss_diversion present_diversion k before s).balances

@[simp] theorem balances_evaluateRecord (s : State) (tag : SequenceTag) :
    (evaluateRecord s tag).balances = s.balances := (evaluateRecord_diversion s tag).balances

@[simp] theorem balances_evaluateTrack (s : State) : (evaluateTrack s).balances = s.balances :=
  (evaluateTrack_diversion s).balances

@[simp] theorem balances_endPulse (k : OutletId) (tag : SequenceTag) (s : State) :
    (endPulse k tag s).balances = s.balances :=
  ((examine_diversion _).trans (present_diversion k _)).balances

theorem balances_retireHead (r : TrackRecord) (rest : List TrackRecord) (s : State) :
    (retireHead r rest s).balances = s.balances := by
  unfold retireHead
  dsimp only
  split
  · exact ((withdraw_diversion _ r.tag _).trans (present_diversion _ _)).balances
  · rfl

theorem balances_retireHeads (n : Nat) (s : State) : (retireHeads n s).balances = s.balances := by
  induction n generalizing s with
  | zero => rfl
  | succ n ih =>
    unfold retireHeads
    split
    · rfl
    · split
      · rw [ih, balances_retireHead]
      · rfl

theorem balances_trackAdvance (s : State) : (trackAdvance s).balances = s.balances :=
  (balances_retireHeads _ _).trans (balances_evaluateTrack s)

/-! ## Outlets -/

@[simp] theorem balances_enterFull (k : OutletId) (before : Bool) (s : State) :
    (enterFull k before s).balances = s.balances := by simp [enterFull]

@[simp] theorem balances_enterJam (k : OutletId) (before : Bool) (s : State) :
    (enterJam k before s).balances = s.balances := by simp [enterJam]

@[simp] theorem balances_takePlace (k : OutletId) (before : Bool) (s : State) :
    (takePlace k before s).balances = s.balances := by
  unfold takePlace
  dsimp only
  split <;> simp

@[simp] theorem balances_crateEffect (k : OutletId) (before : Bool) (s : State) :
    (crateEffect k before s).balances = s.balances := by
  unfold crateEffect
  dsimp only
  split
  · simp
  · split <;> simp

@[simp] theorem balances_strayEvent (k : OutletId) (before : Bool) (s : State) :
    (strayEvent k before s).balances = s.balances := by
  unfold strayEvent
  dsimp only
  split <;> simp

@[simp] theorem balances_confirmationEvent (k : OutletId) (before : Bool) (s : State) :
    (confirmationEvent k before s).balances = s.balances := by
  unfold confirmationEvent removeSorted
  dsimp only
  split
  · rfl
  · split
    · simp
    · split <;> simp

@[simp] theorem balances_timeoutHead (k : OutletId) (s : State) : (timeoutHead k s).balances = s.balances := by
  unfold timeoutHead
  dsimp only
  split <;> simp

@[simp] theorem balances_freshCrate (k : OutletId) (s : State) : (freshCrate k s).balances = s.balances := by
  unfold freshCrate openOrJam
  split <;> simp

theorem balances_removeCrate (k : OutletId) (s : State) : (removeCrate k s).balances = s.balances := by
  unfold removeCrate
  dsimp only
  split <;> simp

theorem balances_placeCrate (k : OutletId) (s : State) : (placeCrate k s).balances = s.balances := by
  unfold placeCrate
  dsimp only
  split
  · split <;> simp
  · rfl

@[simp] theorem balances_enterByMode (k : OutletId) (s : State) : (enterByMode k s).balances = s.balances := by
  unfold enterByMode enterByCrate
  split
  · split
    · split <;> simp
    · simp
  · simp

theorem balances_placed (k : OutletId) (p : Placement) (s : State) : (placed k p s).balances = s.balances := by
  unfold placed rerouted
  split <;> rfl

@[simp] theorem balances_placeOutlet (k : OutletId) (p : Placement) (s : State) :
    (placeOutlet k p s).balances = s.balances := by
  rw [placeOutlet_eq, ← balances_placed k p s]
  unfold enterPlaced
  split
  · rfl
  · simp
  all_goals split <;> simp

/-! ## Channels -/

@[simp] theorem balances_copyDetected (c : ChannelId) (detected : Bool) (s : State) :
    (copyDetected c detected s).balances = s.balances := by
  unfold copyDetected
  split
  · rfl
  · split <;> rfl

@[simp] theorem balances_handDetection (c : ChannelId) (s : State) : (handDetection c s).balances = s.balances := by
  unfold handDetection
  dsimp only
  split <;> split <;> simp

@[simp] theorem balances_handRelease (c : ChannelId) (s : State) : (handRelease c s).balances = s.balances := by
  unfold handRelease
  dsimp only
  split <;> simp

@[simp] theorem balances_noticeChannel (c : ChannelId) (event : ChannelEvent) (s : State) :
    (noticeChannel c event s).balances = s.balances := balances_raiseNotice ..

@[simp] theorem balances_detection (c : ChannelId) (s : State) : (detection c s).balances = s.balances := by
  unfold detection
  dsimp only
  split <;> simp

@[simp] theorem balances_releaseVerdict (c : ChannelId) (s : State) : (releaseVerdict c s).balances = s.balances := by
  unfold releaseVerdict
  dsimp only
  split <;> simp

@[simp] theorem balances_firstVerdict (c : ChannelId) (shown : Bool) (s : State) :
    (firstVerdict c shown s).balances = s.balances := by
  unfold firstVerdict
  dsimp only
  split
  · split <;> simp
  · simp
  · split <;> simp

@[simp] theorem balances_sampleFirst (c : ChannelId) (shown : Bool) (s : State) :
    (sampleFirst c shown s).balances = s.balances := by
  unfold sampleFirst
  dsimp only
  split <;> simp

@[simp] theorem balances_sampleWatching (c : ChannelId) (shown : Bool) (s : State) :
    (sampleWatching c shown s).balances = s.balances := by
  unfold sampleWatching
  dsimp only
  split
  · simp
  · split
    · simp
    · split <;> simp

end Sys2Proof.Machine
end

section
/-! SUPPORT. Every request leaves the balances sound: those to an accumulator keep its ranges, and the others but RESUME
leave every balance. -/

namespace Sys2Proof.Machine

open Sys2Proof

variable {s t : State}

namespace BalancesSound

/-! ## Admission -/

theorem admitItem (h : BalancesSound s) (leading : Position) (footprint : Nat) (identity : Identity) :
    BalancesSound (admitItem leading footprint identity s) :=
  BalancesSound.returnItem (h.of_balances (by simp)) _ _

theorem admitEntry (h : BalancesSound s) (e : PendingEntry) : BalancesSound (admitEntry e s) := by
  unfold Machine.admitEntry
  extract_lets found s1
  have h1 : s1.balances = s.balances := by
    unfold s1
    split <;> rfl
  split
  · refine admitItem (h.of_balances ?_) _ _ _
    exact h1
  · exact (h.of_balances h1).admitItem _ _ _

theorem letGo (h : BalancesSound s) (e : PendingEntry) (rest : List PendingEntry) : BalancesSound (letGo e rest s) := by
  have h1 : BalancesSound (removeEntry e rest s) := h.of_balances rfl
  unfold Machine.letGo
  dsimp only
  split
  · exact h1.admitEntry e
  · exact h1.of_balances (by simp)

theorem examineHeads (h : BalancesSound s) (n : Nat) : BalancesSound (examineHeads n s) := by
  induction n generalizing s with
  | zero => exact h
  | succ n ih =>
    unfold Machine.examineHeads
    split
    · exact h
    · split
      · exact ih (h.letGo _ _)
      · exact h

theorem examineHead (h : BalancesSound s) : BalancesSound (examineHead s) := by
  unfold Machine.examineHead
  split
  · exact h.examineHeads _
  · exact h

theorem discardHeads (h : BalancesSound s) (n : Nat) : BalancesSound (discardHeads n s) := by
  induction n generalizing s with
  | zero => exact h
  | succ n ih =>
    unfold Machine.discardHeads
    split
    · exact h
    · split
      · exact ih (h.of_balances rfl)
      · exact h

theorem admissionAdvance (h : BalancesSound s) : BalancesSound (admissionAdvance s) := by
  unfold Machine.admissionAdvance
  split
  · exact h.examineHeads _
  · exact h.examineHeads _
  · exact h.discardHeads _
  · exact h

theorem trackAdvance (h : BalancesSound s) : BalancesSound (trackAdvance s) := h.of_balances (balances_trackAdvance s)

theorem examine (h : BalancesSound s) : BalancesSound (examine s) := h.of_balances (balances_examine s)

theorem settleLine (h : BalancesSound s) : BalancesSound (settleLine s) := h.of_balances (balances_settleLine s)

theorem inEitherOrder {first second : State → State} (hf : ∀ {s}, BalancesSound s → BalancesSound (first s))
    (hg : ∀ {s}, BalancesSound s → BalancesSound (second s)) (h : BalancesSound s) :
    BalancesSound (inEitherOrder first second s) := by
  have h1 : BalancesSound (s.onDraws (· + 1)) := h.of_balances rfl
  unfold Machine.inEitherOrder inOrder
  split
  · exact hf (hg h1)
  · exact hg (hf h1)

theorem respond (h : BalancesSound s) (q : Request) (status : Status) (results : List Byte) :
    BalancesSound (respond q status results s) := h.of_balances rfl

theorem oldestRequest (h : BalancesSound s) {isFor : Request → Bool} {places : Nat} {q : Request}
    (ho : oldestRequest isFor places s = some (q, t)) : BalancesSound t := by
  unfold Machine.oldestRequest at ho
  split at ho
  · cases ho
  · split at ho
    · cases ho
      exact h.of_balances rfl
    · cases ho

end BalancesSound

/-! ## The taking of a request -/

/-- A handler that leaves the balances sound. -/
def KeepsBalances (handle : Request → State → State) : Prop := ∀ q s, BalancesSound s → BalancesSound (handle q s)

namespace KeepsBalances

/-- A request command whose handler leaves the balances sound leaves them sound. -/
theorem taken {places code length : Nat} {linkOnly : Bool} {handle : Request → State → State}
    (hh : KeepsBalances handle) (h : BalancesSound s)
    (hx : (.next (takeRequestWith places code length linkOnly handle s) : Result) = .next t) : BalancesSound t := by
  refine keeps_next ?_ hx
  unfold takeRequestWith
  split
  · exact h
  · next q s1 ho =>
    have h1 := h.oldestRequest ho
    split
    · exact h1.respond _ _ _
    · split
      · exact h1.respond _ _ _
      · exact hh q s1 h1

theorem of_balances {handle : Request → State → State} (hh : ∀ q s, (handle q s).balances = s.balances) :
    KeepsBalances handle := fun q s h => h.of_balances (hh q s)

theorem answerRead (f : Request → State → Option (List Byte)) : KeepsBalances (answerRead f) :=
  of_balances fun q s => by
    unfold Machine.answerRead
    split <;> rfl

/-! ### Requests to the line, the Air Arbiter and the geometry -/

theorem handleStart : KeepsBalances handleStart := of_balances fun q s => by
  unfold Machine.handleStart
  split <;> simp

theorem handleDrain : KeepsBalances handleDrain := of_balances fun q s => by
  unfold Machine.handleDrain
  split <;> simp

theorem handleStop : KeepsBalances handleStop := of_balances fun q s => by
  unfold Machine.handleStop
  split <;> simp

/-- RESUME examines the head, whose admission may return an item (R164). -/
theorem handleResume : KeepsBalances handleResume := fun q s h => by
  unfold Machine.handleResume
  split
  · split
    · have h1 (reason : LineState) : BalancesSound (moveLine reason .resume (respond q .done [] s)) :=
        (h.respond _ _ _).of_balances (balances_moveLine ..)
      exact (BalancesSound.inEitherOrder BalancesSound.examineHead BalancesSound.examine (h1 _)).settleLine
    · exact h.respond _ _ _
  all_goals exact h.respond _ _ _

theorem handleInitialize : KeepsBalances handleInitialize := of_balances fun q s => by simp [Machine.handleInitialize]

theorem handleSetGeometry : KeepsBalances handleSetGeometry := of_balances fun q s => by
  unfold Machine.handleSetGeometry
  split
  · dsimp only
    split <;> simp
  · rfl

theorem handleSetSpeedCodes : KeepsBalances handleSetSpeedCodes := of_balances fun q s => by
  unfold Machine.handleSetSpeedCodes
  extract_lets
  split <;> simp

theorem handleSetAir : KeepsBalances handleSetAir := of_balances fun q s => by
  unfold Machine.handleSetAir writeAir
  dsimp only
  split
  · rfl
  · split
    · split <;> simp
    · rfl

/-! ### Requests to an outlet -/

theorem withOutlet {f : Request → OutletId → State → State} (hf : ∀ q k s, (f q k s).balances = s.balances) :
    KeepsBalances fun q s => withOutlet q (f q) s := of_balances fun q s => by
  unfold Machine.withOutlet
  split
  · rfl
  · split
    · exact hf ..
    · rfl

theorem handleMask : KeepsBalances handleMask := withOutlet fun q k s => by simp

theorem handleUnmask : KeepsBalances handleUnmask := withOutlet fun q k s => by simp

theorem handleSetCrate : KeepsBalances handleSetCrate := withOutlet fun q k s => by
  dsimp only
  split
  · rfl
  · split <;> rfl

theorem handleReloadCrate : KeepsBalances handleReloadCrate := withOutlet fun q k s => by
  extract_lets
  split <;> simp

theorem handleClearJam : KeepsBalances handleClearJam := withOutlet fun q k s => by
  split <;> simp

theorem handleSetPlaceTiming : KeepsBalances handleSetPlaceTiming := of_balances fun q s => by
  unfold Machine.handleSetPlaceTiming
  split <;> rfl

theorem handleSetOutletPlace : KeepsBalances handleSetOutletPlace := of_balances fun q s => by
  unfold Machine.handleSetOutletPlace
  split
  · rfl
  · split
    · rfl
    · split
      · rfl
      · split <;> simp

/-! ### Routes and channels -/

theorem handleSetRoute : KeepsBalances handleSetRoute := of_balances fun q s => by
  unfold Machine.handleSetRoute
  split
  · split
    · split
      · split
        · rfl
        · split <;> rfl
      · rfl
    · rfl
  · rfl

theorem withChannel {f : Request → ChannelId → State → State} (hf : ∀ q c s, (f q c s).balances = s.balances) :
    KeepsBalances fun q s => withChannel q (f q) s := of_balances fun q s => by
  unfold Machine.withChannel
  split
  · rfl
  · split
    · exact hf ..
    · rfl

theorem handleSetChannel : KeepsBalances handleSetChannel := withChannel fun q c s => by
  split
  · split
    · split <;> rfl
    · rfl
  · rfl

theorem handleEnableChannel : KeepsBalances handleEnableChannel := withChannel fun q c s => by
  split <;> rfl

theorem handleChannelOff : KeepsBalances handleChannelOff := withChannel fun q c s => by
  dsimp only
  split <;> simp

/-! ### Requests to an accumulator -/

theorem withAccount {allowed : Fin 6 → StationId → Bool} {f : Request → Fin 6 → Fin 6 → State → State}
    (hf : ∀ q c i s, BalancesSound s → BalancesSound (f q c i s)) :
    KeepsBalances fun q s => withAccount q allowed (f q) s := fun q s h => by
  dsimp only
  unfold Machine.withAccount
  split
  · split
    · exact hf _ _ _ _ h
    · exact h.respond _ _ _
  · exact h.respond _ _ _

/-- ISSUE adds 4,095 at most (R150). -/
theorem handleIssue : KeepsBalances handleIssue := withAccount fun q c f s h => by
  dsimp only
  split
  · next hr => exact (h.respond _ _ _).add c f (by omega) (by omega) _
  · exact h.respond _ _ _

theorem handleAdjust : KeepsBalances handleAdjust := withAccount fun q c f s h => by
  dsimp only
  split
  · next hr => exact (h.respond _ _ _).add c f hr.1 hr.2 _
  · exact h.respond _ _ _

/-- A 16-bit two's complement number is in the range of a value (R151). -/
theorem signedWord_inRange (q : Request) (i : Nat) : -32768 ≤ q.signedWord i ∧ q.signedWord i ≤ 32767 := by
  have hlo := BitVec.le_toInt (BitVec.ofNat 16 (q.word i))
  have hhi := BitVec.toInt_lt (x := BitVec.ofNat 16 (q.word i))
  unfold Request.signedWord
  omega

theorem handleSetValue : KeepsBalances handleSetValue := withAccount fun q c f s h => by
  obtain ⟨hlo, hhi⟩ := signedWord_inRange q 4
  exact (h.respond _ _ _).changeAccount ⟨hlo, hhi, by simp, by simp⟩

/-- SET THRESHOLD reaches one threshold, and the above flag against it is evaluated at once (R152, R153). -/
theorem handleSetThreshold : KeepsBalances handleSetThreshold := withAccount fun q c f s h => by
  dsimp only
  split
  · next ht =>
    unfold takeChange
    have h1 : BalancesSound (respond q .done [] s) := h.respond _ _ _
    refine changeAccount_sound (fun d g hne => ?_) ?_ ?_
    · exact (accountOf_writeThreshold d g ..).symm ▸ (thresholdOf_writeThreshold_of_ne hne ..).symm ▸ h.get d g
    · exact (thresholdOf_writeThreshold ..).trans_le ht
    · exact (accountOf_writeThreshold c f ..).symm ▸ (h.get c f).toInRange
  · exact h.respond _ _ _

/-- CLEAR FLAGS reaches the over flag alone (R155). -/
theorem handleClearFlags : KeepsBalances handleClearFlags := withAccount fun q c f _ h =>
  (h.respond q .done _).writeAccount { h.get c f with }

theorem handleSetBalanceMode : KeepsBalances handleSetBalanceMode := fun q s h => by
  unfold Machine.handleSetBalanceMode
  split
  · exact h.respond _ _ _
  · split
    · split
      · exact h.respond _ _ _
      · exact (h.respond _ _ _).setMode _ _
    · exact h.respond _ _ _

/-! ### Masks and polls -/

theorem handleSetNoticeMask : KeepsBalances handleSetNoticeMask := of_balances fun _ _ => rfl

theorem handlePollNotices : KeepsBalances handlePollNotices := of_balances fun q s => by
  have hplaced (l : List Notice) (s : State) :
      (l.foldl (fun s n => placeFrame (noticeFrame q.station n) s) s).balances = s.balances := by
    refine foldl_keeps (P := fun t => t.balances = s.balances) ?_ l rfl
    exact fun _ _ ht => ht
  unfold Machine.handlePollNotices
  dsimp only
  split <;> simp [hplaced]

end KeepsBalances

end Sys2Proof.Machine
end

section
/-! SUPPORT. Every command leaves the balances sound. -/

namespace Sys2Proof.Machine

open Sys2Proof

variable {s t : State}

namespace BalancesSound

/-! ## The edges of the gate inputs -/

theorem takeEdge (h : BalancesSound s) {input : GateInput} {rising : Bool} {e : FilteredEdge}
    (he : takeEdge input rising s = some (e, t)) : BalancesSound t := by
  obtain ⟨-, -, others, -, rfl⟩ := takeEdge_some he
  exact h.of_balances rfl

theorem takeLeadingEdge (h : BalancesSound s) : BalancesSound (takeLeadingEdge s) := by
  unfold Machine.takeLeadingEdge leadingEdge
  split
  · exact h
  · next he =>
    have h1 := h.takeEdge he
    dsimp only
    split
    · exact h1.of_balances rfl
    · exact h1.of_balances (by simp)

/-- A trailing edge of the head examines it (R25, R27). -/
theorem takeTrailingEdge (h : BalancesSound s) : BalancesSound (takeTrailingEdge s) := by
  unfold Machine.takeTrailingEdge trailingEdge
  split
  · exact h
  · next e s1 he =>
    have h1 : BalancesSound (s1.onAdmission fun a => { a with entries := giveTrailing e.position a.entries }) :=
      (h.takeEdge he).of_balances rfl
    dsimp only
    split
    · exact h1.examineHead.settleLine
    · exact h1

theorem takeChuteRising (h : BalancesSound s) (k : OutletId) : BalancesSound (takeChuteRising k s) := by
  unfold Machine.takeChuteRising
  split
  · exact h
  · next he =>
    refine (h.takeEdge he).of_balances ?_
    split <;> simp

theorem takeReadyRising (h : BalancesSound s) (k : OutletId) : BalancesSound (takeReadyRising k s) := by
  unfold Machine.takeReadyRising
  split
  · exact h
  · next he => exact h.takeEdge he

theorem takeReadyFalling (h : BalancesSound s) (k : OutletId) : BalancesSound (takeReadyFalling k s) := by
  unfold Machine.takeReadyFalling fallReady
  split
  · exact h
  · next he =>
    refine (h.takeEdge he).of_balances ?_
    split <;> simp

theorem takeCrateFalling (h : BalancesSound s) (k : OutletId) : BalancesSound (takeCrateFalling k s) := by
  unfold Machine.takeCrateFalling
  split
  · exact h
  · next he => exact (h.takeEdge he).of_balances (balances_removeCrate ..)

theorem takeCrateRising (h : BalancesSound s) (k : OutletId) : BalancesSound (takeCrateRising k s) := by
  unfold Machine.takeCrateRising
  split
  · exact h
  · next he => exact (h.takeEdge he).of_balances (balances_placeCrate ..)

theorem handOldest (h : BalancesSound s) : BalancesSound (handOldest s) := by
  unfold Machine.handOldest
  split
  · exact h
  · split
    · exact h.takeLeadingEdge
    · exact h.takeTrailingEdge
    · exact h.takeChuteRising _
    · exact h.of_balances rfl
    · exact h.takeCrateRising _
    · exact h.takeCrateFalling _
    · exact h.takeReadyRising _
    · exact h.takeReadyFalling _

theorem handEdges (h : BalancesSound s) (n : Nat) : BalancesSound (handEdges n s) := by
  induction n generalizing s with
  | zero => exact h
  | succ n ih => exact ih h.handOldest

/-! ## The Identity Port -/

/-- A record attached to the head completes it (R26, R27). -/
theorem matchRecord (h : BalancesSound s) (capture : CaptureNumber) (identity : Identity) :
    BalancesSound (matchRecord capture identity s) := by
  have h1 : BalancesSound (attachRecord capture identity s) := h.of_balances rfl
  unfold Machine.matchRecord
  split
  · exact h.of_balances rfl
  · split
    · exact h.of_balances rfl
    · dsimp only
      split
      · exact h1.examineHead.settleLine
      · exact h1

theorem takeByte (h : BalancesSound s) (value : Byte) (framingError : Bool) :
    BalancesSound (takeByte value framingError s) := by
  unfold Machine.takeByte
  split
  · split
    · exact h.of_balances rfl
    · exact h
  · split
    · exact h.of_balances rfl
    · split
      · exact h.of_balances rfl
      · unfold completeRecord
        split
        · exact h.of_balances rfl
        · refine matchRecord (h.of_balances ?_) _ _
          rfl

/-! ## The commands -/

/-- A command that leaves every balance. -/
theorem left {u : State} (h : BalancesSound s) (hx : (.next u : Result) = .next t) (hu : u.balances = s.balances) :
    BalancesSound t := keeps_next (h.of_balances hu) hx

theorem execEncoderEvent (h : BalancesSound s) (p : Phases) (hx : execEncoderEvent p s = .next t) :
    BalancesSound t := by
  unfold Machine.execEncoderEvent at hx
  split at hx
  · exact h.left hx rfl
  · refine keeps_next ?_ hx
    have h1 : BalancesSound (advancePosition (takePhases p s)) := h.of_balances rfl
    unfold forwardStep
    split
    · exact h.of_balances rfl
    · exact (BalancesSound.inEitherOrder admissionAdvance trackAdvance h1).settleLine
  · refine h.left hx ?_
    unfold reverseStep
    dsimp only
    split <;> simp [takePhases]
  · exact h.left hx rfl

theorem execSpeedIntervalClose (h : BalancesSound s) (hx : execSpeedIntervalClose s = .next t) :
    BalancesSound t := by
  unfold Machine.execSpeedIntervalClose at hx
  split at hx
  · refine h.left hx ?_
    rw [balances_settleLine, balances_evaluateTrack]
    rfl
  · exact h.left hx rfl

theorem execFrameTimerExpiry (h : BalancesSound s) (hx : execFrameTimerExpiry s = .next t) : BalancesSound t := by
  unfold Machine.execFrameTimerExpiry at hx
  split at hx
  · exact h.left hx rfl
  · split at hx
    · exact h.left hx rfl
    · exact h.left hx rfl

theorem execCaptureMessageBegin (h : BalancesSound s) (hx : execCaptureMessageBegin s = .next t) :
    BalancesSound t := by
  unfold Machine.execCaptureMessageBegin at hx
  split at hx
  · exact h.left hx rfl
  · exact h.left hx rfl

theorem execPulseEnd (h : BalancesSound s) (k : OutletId) (hx : execPulseEnd k s = .next t) : BalancesSound t := by
  unfold Machine.execPulseEnd at hx
  split at hx
  · exact h.left hx rfl
  · split at hx
    · exact h.left hx (by simp)
    · exact h.left hx rfl

theorem execConfirmTimeout (h : BalancesSound s) (k : OutletId) (hx : execConfirmTimeout k s = .next t) :
    BalancesSound t := by
  unfold Machine.execConfirmTimeout at hx
  split at hx
  · exact h.left hx rfl
  · split at hx
    · exact h.left hx (by simp)
    · exact h.left hx rfl

theorem execSettleTimeExpiry (h : BalancesSound s) (c : ChannelId) (hx : execSettleTimeExpiry c s = .next t) :
    BalancesSound t := by
  unfold Machine.execSettleTimeExpiry at hx
  split at hx
  · split at hx
    · exact h.left hx rfl
    · exact h.left hx rfl
  · exact h.left hx rfl

theorem execChannelSample (h : BalancesSound s) (c : ChannelId) (above : Bool)
    (hx : execChannelSample c above s = .next t) : BalancesSound t := by
  unfold Machine.execChannelSample scheduleSample at hx
  split at hx
  · exact h.left hx rfl
  · split at hx
    · split at hx
      · exact h.left hx (by simp)
      · exact h.left hx (by simp)
      · exact h.left hx rfl
      · exact h.left hx rfl
    · exact h.left hx rfl

theorem execFrameArrival (h : BalancesSound s) (frame : CanFrame) (remote : Bool)
    (hx : execFrameArrival frame remote s = .next t) : BalancesSound t := by
  unfold Machine.execFrameArrival receiveRequest at hx
  split at hx
  · exact h.left hx rfl
  · split at hx
    · exact h.left hx rfl
    · refine h.left hx ?_
      split <;> rfl

theorem execFrameTransmitted (h : BalancesSound s) (hx : execFrameTransmitted s = .next t) : BalancesSound t := by
  unfold Machine.execFrameTransmitted at hx
  split at hx
  · exact h.left hx rfl
  · exact h.left hx rfl

theorem execFrameTransmissionBegin (h : BalancesSound s) (hx : execFrameTransmissionBegin s = .next t) :
    BalancesSound t := by
  unfold Machine.execFrameTransmissionBegin at hx
  split at hx
  · exact h.left hx rfl
  · exact h.left hx rfl

theorem execUnassignedRequestCode (h : BalancesSound s) (hx : execUnassignedRequestCode s = .next t) :
    BalancesSound t := by
  unfold Machine.execUnassignedRequestCode at hx
  split at hx
  · exact h.left hx rfl
  · next ho => exact (h.oldestRequest ho).left hx rfl

theorem exec {c : Instr} (h : BalancesSound s) (hx : exec c s = .next t) : BalancesSound t := by
  cases c with
  | powerOn p e => exact keeps_next (balancesSound_powerOn p e s) hx
  | encoderEvent p => exact h.execEncoderEvent p hx
  | speedIntervalClose => exact h.execSpeedIntervalClose hx
  | geLeadingEdge => exact keeps_next h.takeLeadingEdge hx
  | geTrailingEdge => exact keeps_next h.takeTrailingEdge hx
  | chuteGateRising k => exact keeps_next (h.takeChuteRising k) hx
  | crateRemoved k => exact keeps_next (h.takeCrateFalling k) hx
  | cratePlaced k => exact keeps_next (h.takeCrateRising k) hx
  | readyLineRising k => exact keeps_next (h.takeReadyRising k) hx
  | readyLineFalling k => exact keeps_next (h.takeReadyFalling k) hx
  | receiveByte value framingError => exact keeps_next (h.takeByte value framingError) hx
  | frameTimerExpiry => exact h.execFrameTimerExpiry hx
  | captureMessageBegin => exact h.execCaptureMessageBegin hx
  | captureMessageSent => exact h.left hx (State.onAdmission_balances ..)
  | pulseEnd k => exact h.execPulseEnd k hx
  | confirmTimeout k => exact h.execConfirmTimeout k hx
  | estopAssertion => exact h.left hx (by simp)
  | estopRelease => exact h.left hx (by simp)
  | settleTimeExpiry c => exact h.execSettleTimeExpiry c hx
  | channelSample c above => exact h.execChannelSample c above hx
  | frameArrival frame remote => exact h.execFrameArrival frame remote hx
  | frameTransmitted => exact h.execFrameTransmitted hx
  | unassignedRequestCode => exact h.execUnassignedRequestCode hx
  | start => exact KeepsBalances.handleStart.taken h hx
  | drain => exact KeepsBalances.handleDrain.taken h hx
  | stop => exact KeepsBalances.handleStop.taken h hx
  | resume => exact KeepsBalances.handleResume.taken h hx
  | initializeLine => exact KeepsBalances.handleInitialize.taken h hx
  | setGeometry => exact KeepsBalances.handleSetGeometry.taken h hx
  | setSpeedCodes => exact KeepsBalances.handleSetSpeedCodes.taken h hx
  | setAir => exact KeepsBalances.handleSetAir.taken h hx
  | setPlaceTiming => exact KeepsBalances.handleSetPlaceTiming.taken h hx
  | setOutletPlace => exact KeepsBalances.handleSetOutletPlace.taken h hx
  | mask => exact KeepsBalances.handleMask.taken h hx
  | unmask => exact KeepsBalances.handleUnmask.taken h hx
  | setCrate => exact KeepsBalances.handleSetCrate.taken h hx
  | reloadCrate => exact KeepsBalances.handleReloadCrate.taken h hx
  | clearJam => exact KeepsBalances.handleClearJam.taken h hx
  | setRoute => exact KeepsBalances.handleSetRoute.taken h hx
  | setChannel => exact KeepsBalances.handleSetChannel.taken h hx
  | enableChannel => exact KeepsBalances.handleEnableChannel.taken h hx
  | channelOff => exact KeepsBalances.handleChannelOff.taken h hx
  | issue => exact KeepsBalances.handleIssue.taken h hx
  | adjust => exact KeepsBalances.handleAdjust.taken h hx
  | setValue => exact KeepsBalances.handleSetValue.taken h hx
  | setBalanceMode => exact KeepsBalances.handleSetBalanceMode.taken h hx
  | setThreshold => exact KeepsBalances.handleSetThreshold.taken h hx
  | clearFlags => exact KeepsBalances.handleClearFlags.taken h hx
  | readLine => exact (KeepsBalances.answerRead _).taken h hx
  | readOutlet => exact (KeepsBalances.answerRead _).taken h hx
  | readConfirmQueue => exact (KeepsBalances.answerRead _).taken h hx
  | readTrackEntry => exact (KeepsBalances.answerRead _).taken h hx
  | readPending => exact (KeepsBalances.answerRead _).taken h hx
  | readRoute => exact (KeepsBalances.answerRead _).taken h hx
  | readChannel => exact (KeepsBalances.answerRead _).taken h hx
  | readBalance => exact (KeepsBalances.answerRead _).taken h hx
  | readCounts => exact (KeepsBalances.answerRead _).taken h hx
  | setNoticeMask => exact KeepsBalances.handleSetNoticeMask.taken h hx
  | pollNotices => exact KeepsBalances.handlePollNotices.taken h hx
  | inputSample ge chutes crates readies => exact (h.handEdges s.sensing.edges.length).left hx rfl
  | frameTransmissionBegin => exact h.execFrameTransmissionBegin hx

end BalancesSound

end Sys2Proof.Machine

open Sys2Proof Sys2Proof.Machine

/-- Settles O8, by the commands: the returns at admission and the requests to an accumulator keep its ranges and
evaluate its above flag, and every other change leaves the balances. -/
theorem stepKeepsBalancesSound : Obligations.StepKeepsBalancesSound := by
  intro s t h hx
  unfold step at hx
  split at hx
  · exact keeps_next h hx
  · next c rest _ =>
    have h1 : BalancesSound { s with pending := rest } := h.of_balances rfl
    exact h1.exec hx
end

section
/-! SUPPORT. The requests to a balance, taken and refused (R146, R149 to R155). -/

namespace Sys2Proof.Machine

open Sys2Proof

variable {s : State} {c f : Fin 6} {rest : List Request} {a : StationId} {tag : Byte}

/-! ## The checks of subject and sender (R149) -/

theorem mayOperateBalance_iff : mayOperateBalance c a = true ↔ a = 0 ∨ a = c.succ := by
  rw [mayOperateBalance, Bool.or_eq_true, beq_iff_eq, beq_iff_eq, concessionStation]

theorem withAccount_of_none {q : Request} (hq : sixOf (q.byte 2) = none ∨ sixOf (q.byte 3) = none)
    (allowed : Fin 6 → StationId → Bool) (handle : Fin 6 → Fin 6 → State → State) (s : State) :
    withAccount q allowed handle s = respond q .badValue [] s := by
  unfold withAccount
  split
  · next hc hf => rcases hq with hn | hn <;> simp_all
  · rfl

theorem withAccount_of_stranger {q : Request} {allowed : Fin 6 → StationId → Bool} (hc : sixOf (q.byte 2) = some c)
    (hf : sixOf (q.byte 3) = some f) (ha : ¬ allowed c q.station = true) (handle : Fin 6 → Fin 6 → State → State)
    (s : State) : withAccount q allowed handle s = respond q .notYours [] s := by
  simp only [withAccount, hc, hf, if_neg ha]

theorem withAccount_of_entitled {q : Request} {allowed : Fin 6 → StationId → Bool} (hc : sixOf (q.byte 2) = some c)
    (hf : sixOf (q.byte 3) = some f) (ha : allowed c q.station = true) (handle : Fin 6 → Fin 6 → State → State)
    (s : State) : withAccount q allowed handle s = handle c f s := by
  simp only [withAccount, hc, hf, if_pos ha]

/-- The five requests to an accumulator make these checks first; SET VALUE is station 0's alone (R149, R151). -/
theorem exec_accountRequest {cmd : Instr} {row : RequestRow} {n p : Byte} {args : List Byte}
    (hcmd : cmd ∈ [Instr.issue, .adjust, .setValue, .setThreshold, .clearFlags]) (hrow : requestRow cmd = some row)
    (h : s.asked a (row.code :: tag :: n :: p :: args) rest) (hl : args.length + 4 = row.length) :
    ∃ allowed handle,
      exec cmd s = .next (withAccount { station := a, data := row.code :: tag :: n :: p :: args } allowed handle
        (s.unanswered rest)) ∧
      ∀ c : Fin 6, allowed c a = true → a = 0 ∨ (cmd ≠ .setValue ∧ a = c.succ) := by
  have hl' : (n :: p :: args).length + 2 = row.length := hl
  have hmay (hne : cmd ≠ .setValue) (c : Fin 6) (ha : mayOperateBalance c a = true) :
      a = 0 ∨ (cmd ≠ .setValue ∧ a = c.succ) := (mayOperateBalance_iff.1 ha).imp_right fun ho => ⟨hne, ho⟩
  simp only [List.mem_cons, List.not_mem_nil, or_false] at hcmd
  rcases hcmd with rfl | rfl | rfl | rfl | rfl <;> cases hrow
  · exact ⟨_, _, congrArg Host.Outcome.next (takeRequest_asked h handleIssue hl' nofun), hmay nofun⟩
  · exact ⟨_, _, congrArg Host.Outcome.next (takeRequest_asked h handleAdjust hl' nofun), hmay nofun⟩
  · exact ⟨_, _, congrArg Host.Outcome.next (takeRequest_asked h handleSetValue hl' nofun),
      fun _ ha => .inl (beq_iff_eq.1 ha)⟩
  · exact ⟨_, _, congrArg Host.Outcome.next (takeRequest_asked h handleSetThreshold hl' nofun), hmay nofun⟩
  · exact ⟨_, _, congrArg Host.Outcome.next (takeRequest_asked h handleClearFlags hl' nofun), hmay nofun⟩

/-- A request to an accumulator from a station that may send it is carried out on the state with the request taken. -/
theorem exec_accountEntitled {cmd : Instr} {code : Byte} {args : List Byte} {allowed : Fin 6 → StationId → Bool}
    {handle : Request → Fin 6 → Fin 6 → State → State} {length : Nat}
    (hcmd : exec cmd s =
      .next (takeRequest code.toNat length false (fun q s => withAccount q allowed (handle q) s) s))
    (h : s.asked a (code :: tag :: numberByte c :: numberByte f :: args) rest) (hl : args.length + 4 = length)
    (ha : allowed c a = true) : exec cmd s = .next
      (handle { station := a, data := code :: tag :: numberByte c :: numberByte f :: args } c f
        (s.unanswered rest)) := by
  have hl' : (numberByte c :: numberByte f :: args).length + 2 = length := hl
  rw [hcmd, takeRequest_asked (linkOnly := false) h _ hl' nofun]
  refine congrArg Host.Outcome.next (withAccount_of_entitled ?_ ?_ ha _ _)
  · exact sixOf_numberByte c
  · exact sixOf_numberByte f

/-! ## The answer and the change -/

/-- The low byte of a signed number is its own two's complement in one byte. -/
theorem ofNat_toNat_ofInt (v : Int) : BitVec.ofNat 8 (BitVec.ofInt 16 v).toNat = BitVec.ofInt 8 v := by
  refine BitVec.eq_of_toNat_eq ?_
  rw [BitVec.toNat_ofNat, BitVec.toNat_ofInt, BitVec.toNat_ofInt]
  omega

theorem padTo_accumulatorForm (x : Accumulator) : padTo 5 (accumulatorForm x) =
    [BitVec.ofNat 8 ((BitVec.ofInt 16 x.value).toNat / 256), BitVec.ofInt 8 x.value, BitVec.ofInt 8 x.excursion,
      BitVec.ofNat 8 ((if x.overFlag = true then 1 else 0) + (if x.aboveFlag = true then 2 else 0)), 0] := by
  rw [accumulatorForm_eq, ← ofNat_toNat_ofInt x.value]
  rfl

theorem State.onBalance_onBalance (c : Fin 6) (g h : Balance → Balance) (s : State) :
    (s.onBalance c g).onBalance c h = s.onBalance c fun b => h (g b) := by
  simp [State.onBalance]

theorem writeThreshold_self (c f : Fin 6) (s : State) : writeThreshold c f (thresholdOf c f s) s = s := by
  have hb : { s.balances[c] with thresholds := s.balances[c].thresholds.set f (thresholdOf c f s) } = s.balances[c] :=
    congrArg (fun l => { s.balances[c] with thresholds := l }) (Vector.set_getElem_self _)
  rw [writeThreshold, State.onBalance, hb]
  exact congrArg (fun b => { s with balances := b }) (Vector.set_getElem_self _)

/-- A request of station `a` taken that changes an accumulator to `x` under the threshold `h`: `x` is evaluated,
answered, written and reported (R149, R152). -/
def State.changed (a : StationId) (code tag : Byte) (rest : List Request) (c f : Fin 6) (x : Accumulator) (h : Nat)
    (s : State) : State :=
  let new := evaluateAbove h x
  let v := (s.taken rest (answer a code tag .done (padTo 5 (accumulatorForm new)))).onBalance c fun b =>
    { b with accounts := b.accounts.set f new, thresholds := b.thresholds.set f h }
  if (accountOf c f s).aboveFlag = false ∧ new.aboveFlag = true then
    raiseNotice (.balanceHigh c f new.value new.excursion h) v
  else v

theorem takeChange_writeThreshold (code : Byte) (args : List Byte) (change : Accumulator → Accumulator)
    (threshold : Nat) (s : State) :
    takeChange { station := a, data := code :: tag :: args } c f change
        (writeThreshold c f threshold (s.unanswered rest)) =
      s.changed a code tag rest c f (change (accountOf c f s)) threshold := by
  have hrespond (l : List Byte) : respond { station := a, data := code :: tag :: args } .done l
      (writeThreshold c f threshold (s.unanswered rest)) =
        writeThreshold c f threshold (s.taken rest (answer a code tag .done (padTo 5 l))) :=
    congrArg (writeThreshold c f threshold) (respond_unanswered ..)
  have hwrite (x : Accumulator) (t : State) : writeAccount c f x (writeThreshold c f threshold t) =
      t.onBalance c fun b =>
        { b with accounts := b.accounts.set f x, thresholds := b.thresholds.set f threshold } :=
    State.onBalance_onBalance ..
  rw [takeChange, hrespond, changeAccount_eq]
  simp only [accountOf_writeThreshold, thresholdOf_writeThreshold, hwrite]
  rfl

/-- A change of value keeps the threshold. -/
theorem takeChange_unanswered (code : Byte) (args : List Byte) (change : Accumulator → Accumulator) (s : State) :
    takeChange { station := a, data := code :: tag :: args } c f change (s.unanswered rest) =
      s.changed a code tag rest c f (change (accountOf c f s)) (thresholdOf c f s) := by
  rw [← takeChange_writeThreshold code args]
  exact congrArg _ (writeThreshold_self c f (s.unanswered rest)).symm

/-! ## The requests to an accumulator, taken -/

/-- A number of two bytes read as signed (section 11.1). -/
theorem toInt_ofNat_16 {n : Nat} (h : n < 65536) :
    (BitVec.ofNat 16 n).toInt = if n < 32768 then (n : Int) else (n : Int) - 65536 := by
  rw [BitVec.toInt_eq_toNat_cond, BitVec.toNat_ofNat, Nat.mod_eq_of_lt h]
  split <;> split <;> omega

theorem twoBytes_lt (x y : Byte) : x.toNat * 256 + y.toNat < 65536 := by
  have hx := x.isLt
  have hy := y.isLt
  omega

section

variable {x y : Byte}

theorem exec_issue (ha : a = 0 ∨ a = c.succ) (h : s.asked a [0x28, tag, numberByte c, numberByte f, x, y] rest) :
    exec .issue s = .next
      (if 1 ≤ x.toNat * 256 + y.toNat ∧ x.toNat * 256 + y.toNat ≤ 4095 then
        s.changed a 0x28 tag rest c f
          (addAmount s.balances[c].mode (x.toNat * 256 + y.toNat : Nat) (accountOf c f s)) (thresholdOf c f s)
      else s.taken rest (answer a 0x28 tag .badValue noResults)) := by
  rw [exec_accountEntitled rfl h rfl (mayOperateBalance_iff.2 ha)]
  refine congrArg Host.Outcome.next (if_congr Iff.rfl ?_ ?_)
  · exact takeChange_unanswered ..
  · exact respond_unanswered ..

theorem exec_adjust (ha : a = 0 ∨ a = c.succ) (h : s.asked a [0x29, tag, numberByte c, numberByte f, x, y] rest)
    {signed : Int} (hs : (BitVec.ofNat 16 (x.toNat * 256 + y.toNat)).toInt = signed) :
    exec .adjust s = .next
      (if -4095 ≤ signed ∧ signed ≤ 4095 then
        s.changed a 0x29 tag rest c f (addAmount s.balances[c].mode signed (accountOf c f s)) (thresholdOf c f s)
      else s.taken rest (answer a 0x29 tag .badValue noResults)) := by
  subst hs
  rw [exec_accountEntitled rfl h rfl (mayOperateBalance_iff.2 ha)]
  refine congrArg Host.Outcome.next (if_congr Iff.rfl ?_ ?_)
  · exact takeChange_unanswered ..
  · exact respond_unanswered ..

theorem exec_setThreshold (ha : a = 0 ∨ a = c.succ)
    (h : s.asked a [0x2C, tag, numberByte c, numberByte f, x, y] rest) :
    exec .setThreshold s = .next
      (if x.toNat * 256 + y.toNat ≤ 32767 then
        s.changed a 0x2C tag rest c f (accountOf c f s) (x.toNat * 256 + y.toNat)
      else s.taken rest (answer a 0x2C tag .badValue noResults)) := by
  rw [exec_accountEntitled rfl h rfl (mayOperateBalance_iff.2 ha)]
  refine congrArg Host.Outcome.next (if_congr Iff.rfl ?_ ?_)
  · exact takeChange_writeThreshold (change := id) ..
  · exact respond_unanswered ..

theorem exec_setValue (h : s.asked 0 [0x2A, tag, numberByte c, numberByte f, x, y] rest)
    {signed : Int} (hs : (BitVec.ofNat 16 (x.toNat * 256 + y.toNat)).toInt = signed) :
    exec .setValue s = .next
      (s.changed 0 0x2A tag rest c f { accountOf c f s with value := signed, excursion := 0 } (thresholdOf c f s)) := by
  subst hs
  rw [exec_accountEntitled rfl h rfl rfl, takeChange_unanswered]
  rfl

end

theorem exec_clearFlags (ha : a = 0 ∨ a = c.succ) (h : s.asked a [0x2D, tag, numberByte c, numberByte f] rest) :
    exec .clearFlags s =
      let cleared := { accountOf c f s with overFlag := false }
      .next (writeAccount c f cleared
        (s.taken rest (answer a 0x2D tag .done (padTo 5 (accumulatorForm cleared))))) := by
  rw [exec_accountEntitled rfl h rfl (mayOperateBalance_iff.2 ha)]
  exact congrArg (fun t => Host.Outcome.next (writeAccount c f _ t)) (respond_unanswered ..)

/-! ## SET BALANCE MODE (R154) -/

theorem BalanceMode.ofCode_eq (n : Nat) (mode : BalanceMode) : BalanceMode.ofCode n = some mode ↔ n = mode.code := by
  unfold BalanceMode.ofCode
  split <;> cases mode <;> simp_all [BalanceMode.code]

theorem BalanceMode.ofCode_byte_of_ne {m : Byte} : m ≠ 0 → m ≠ 1 → BalanceMode.ofCode m.toNat = none := by
  revert m
  decide

section

variable {q : Request}

theorem handleSetBalanceMode_of_none (hc : sixOf (q.byte 2) = none) (s : State) :
    handleSetBalanceMode q s = respond q .badValue [] s := by
  simp only [handleSetBalanceMode, hc]

variable (hc : sixOf (q.byte 2) = some c)
include hc

theorem handleSetBalanceMode_of_stranger (ha : ¬ mayOperateBalance c q.station = true) (s : State) :
    handleSetBalanceMode q s = respond q .notYours [] s := by
  simp only [handleSetBalanceMode, hc, if_neg ha]

theorem handleSetBalanceMode_of_no_mode (ha : mayOperateBalance c q.station = true)
    (hm : BalanceMode.ofCode (q.byte 3) = none) (s : State) :
    handleSetBalanceMode q s = respond q .badValue [] s := by
  simp only [handleSetBalanceMode, hc, if_pos ha, hm]

theorem handleSetBalanceMode_of_mode {mode : BalanceMode} (ha : mayOperateBalance c q.station = true)
    (hm : BalanceMode.ofCode (q.byte 3) = some mode) (s : State) : handleSetBalanceMode q s =
      (respond q .done (bytes1 mode.code) s).onBalance c fun b => { b with mode := mode } := by
  simp only [handleSetBalanceMode, hc, if_pos ha, hm]

end

theorem exec_setBalanceMode {n m : Byte} (h : s.asked a [0x2B, tag, n, m] rest) : exec .setBalanceMode s =
    .next (handleSetBalanceMode { station := a, data := [0x2B, tag, n, m] } (s.unanswered rest)) :=
  congrArg Host.Outcome.next (takeRequest_asked (code := 0x2B) h handleSetBalanceMode rfl nofun)

end Sys2Proof.Machine

open Sys2Proof Sys2Proof.Machine

/-- Settles O57: the checks of subject and sender, and then each request by its own range. -/
theorem balanceMastersChangeTheValue : Obligations.BalanceMastersChangeTheValue := by
  refine ⟨fun cmd row a tag n p args rest s hcmd hrow h hl => ?_, fun c f a tag x y rest s => ?_⟩
  · obtain ⟨allowed, handle, hx, hallowed⟩ := exec_accountRequest hcmd hrow h hl
    rw [hx]
    refine ⟨fun hn => next_of_refused (withAccount_of_none ?_ _ _ _), ?_⟩
    · exact hn.imp sixOf_of_ne sixOf_of_ne
    · rintro c f rfl rfl h0 ho
      refine next_of_refused (withAccount_of_stranger (c := c) (f := f) ?_ ?_ (fun ha => ?_) _ _)
      · exact sixOf_numberByte c
      · exact sixOf_numberByte f
      · obtain rfl | ⟨hne, rfl⟩ := hallowed c ha
        · exact h0 rfl
        · exact ho.elim hne fun hc => hc rfl
  · intro amount signed old mode refused changed threshold
    have hsigned : (BitVec.ofNat 16 amount).toInt = signed := toInt_ofNat_16 (twoBytes_lt x y)
    have hchanged (code : Byte) (z : Accumulator) (n : Nat) : s.changed a code tag rest c f z n = changed code z n := by
      rw [State.changed, padTo_accumulatorForm]
      rfl
    refine ⟨fun ha => ⟨fun h => ⟨fun hlo hhi => ?_, fun hno => ?_⟩, fun h => ⟨fun hlo hhi => ?_, fun hno => ?_⟩,
      fun h => ⟨fun hle => ?_, fun hno => ?_⟩⟩, ?_⟩
    · rw [exec_issue ha h, if_pos ⟨hlo, hhi⟩, hchanged]
      rfl
    · rw [exec_issue ha h, if_neg (by omega)]
    · rw [exec_adjust ha h hsigned, if_pos ⟨hlo, hhi⟩, hchanged]
      rfl
    · rw [exec_adjust ha h hsigned, if_neg (by omega)]
    · rw [exec_setThreshold ha h, if_pos hle, hchanged]
      rfl
    · rw [exec_setThreshold ha h, if_neg (by omega)]
    · rintro rfl h
      rw [exec_setValue h hsigned, hchanged]
      rfl

/-- Settles O58: CLEAR FLAGS by its answer and its write, SET BALANCE MODE by its checks in their order. -/
theorem flagsAndModesAreSet : Obligations.FlagsAndModesAreSet := by
  refine ⟨fun c f a tag rest s ha h => ?_, fun a tag n m rest s h => ?_⟩
  · intro old
    have hflag : BitVec.ofNat 8 (0 + if old.aboveFlag = true then 2 else 0) =
        if old.aboveFlag = true then 2 else (0 : Byte) := by
      split <;> rfl
    rw [exec_clearFlags ha h, ← hflag]
    dsimp only
    rw [padTo_accumulatorForm]
    rfl
  · rw [exec_setBalanceMode h]
    refine ⟨fun hn => next_of_refused (handleSetBalanceMode_of_none ?_ _), ?_⟩
    · exact sixOf_of_ne hn
    rintro c rfl
    have hc : sixOf (Request.byte { station := a, data := [0x2B, tag, numberByte c, m] } 2) = some c :=
      sixOf_numberByte c
    refine ⟨fun h0 ho => ?_, fun ha => ⟨fun hm0 hm1 => ?_, fun mode hm => ?_⟩⟩
    · refine next_of_refused (handleSetBalanceMode_of_stranger hc (fun hmay => ?_) _)
      exact (mayOperateBalance_iff.1 hmay).elim h0 ho
    · refine next_of_refused (handleSetBalanceMode_of_no_mode hc (mayOperateBalance_iff.2 ha) ?_ _)
      exact BalanceMode.ofCode_byte_of_ne hm0 hm1
    · have hm' : BitVec.ofNat 8 mode.code = m := by simp [← hm]
      rw [handleSetBalanceMode_of_mode hc (mayOperateBalance_iff.2 ha) ((BalanceMode.ofCode_eq _ _).2 hm),
        respond_unanswered, bytes1, hm']
      rfl
end

section
/-! SUPPORT. START, DRAIN and RESUME, taken and refused (R159 to R161, R164). -/

namespace Sys2Proof.Machine

open Sys2Proof

variable {s : State} {rest : List Request} {tag : Byte} {r : ResumeState}

/-! ## Moves of the line by a request -/

/-- The move a request makes behind its own response. -/
def State.movedBy (code tag : Byte) (rest : List Request) (new : LineState) (cause : LineCause) (s : State) : State :=
  moveLine new cause (s.taken rest (answer 0 code tag .done noResults))

theorem moveLine_respond_unanswered (code tag : Byte) (rest : List Request) (new : LineState) (cause : LineCause)
    (s : State) : moveLine new cause (respond { station := 0, data := [code, tag] } .done [] (s.unanswered rest)) =
      s.movedBy code tag rest new cause := by
  rw [respond_unanswered]
  rfl

/-- A move of the line uses no free value. -/
theorem moveLine_draws (new : LineState) (cause : LineCause) (s : State) : (moveLine new cause s).draws = s.draws := by
  rw [moveLine_eq]

/-! ## START (R159) -/

theorem exec_start (h : s.asked 0 [0x01, tag] rest) :
    exec .start s = .next (handleStart { station := 0, data := [0x01, tag] } (s.unanswered rest)) :=
  congrArg Host.Outcome.next (takeRequest_asked (code := 0x01) h handleStart rfl fun _ => rfl)

theorem exec_start_taken (h : s.asked 0 [0x01, tag] rest)
    (hs : s.line.state = .standby ∧ s.line.estop = false ∧ s.geometry.beltEnd ≠ none) :
    exec .start s = .next (driveOutputs (s.movedBy 0x01 tag rest .run .start)) := by
  obtain ⟨hl, he, hb⟩ := hs
  rw [exec_start h, handleStart, if_pos ⟨hl, he, Option.isSome_iff_ne_none.2 hb⟩, moveLine_respond_unanswered]

theorem exec_start_refused (h : s.asked 0 [0x01, tag] rest)
    (hs : ¬ (s.line.state = .standby ∧ s.line.estop = false ∧ s.geometry.beltEnd ≠ none)) :
    exec .start s = .next (s.taken rest (answer 0 0x01 tag .wrongState noResults)) := by
  rw [exec_start h, handleStart, if_neg fun ⟨hl, he, hb⟩ => hs ⟨hl, he, Option.isSome_iff_ne_none.1 hb⟩]
  exact next_of_refused rfl

/-! ## DRAIN (R160) -/

theorem exec_drain (h : s.asked 0 [0x02, tag] rest) :
    exec .drain s = .next (handleDrain { station := 0, data := [0x02, tag] } (s.unanswered rest)) :=
  congrArg Host.Outcome.next (takeRequest_asked (code := 0x02) h handleDrain rfl fun _ => rfl)

theorem exec_drain_taken (h : s.asked 0 [0x02, tag] rest) (hs : s.line.state = .run) :
    exec .drain s = .next (settleLine (s.movedBy 0x02 tag rest .drain .drain)) := by
  rw [exec_drain h, handleDrain, if_pos (by exact hs), moveLine_respond_unanswered]

theorem exec_drain_refused (h : s.asked 0 [0x02, tag] rest) (hs : s.line.state ≠ .run) :
    exec .drain s = .next (s.taken rest (answer 0 0x02 tag .wrongState noResults)) := by
  rw [exec_drain h, handleDrain, if_neg (by exact hs)]
  exact next_of_refused rfl

/-! ## RESUME (R164) -/

theorem handleResume_of_halt {q : Request} (hl : s.line.state = .halt r) : handleResume q s =
    if s.line.estop = false ∧ s.sensing.debt = 0 then
      settleLine (inEitherOrder examineHead examine (moveLine r.lineState .resume (respond q .done [] s)))
    else respond q .wrongState [] s := by
  simp only [handleResume, hl]

theorem handleResume_of_not_halt {q : Request} (hl : ∀ r, s.line.state ≠ .halt r) :
    handleResume q s = respond q .wrongState [] s := by
  unfold handleResume
  split
  · next r hr => exact absurd hr (hl r)
  all_goals rfl

theorem exec_resume (h : s.asked 0 [0x04, tag] rest) :
    exec .resume s = .next (handleResume { station := 0, data := [0x04, tag] } (s.unanswered rest)) :=
  congrArg Host.Outcome.next (takeRequest_asked (code := 0x04) h handleResume rfl fun _ => rfl)

/-- The two examinations of a RESUME, in the order of the free value it uses (log 3). -/
theorem exec_resume_taken (h : s.asked 0 [0x04, tag] rest) (hl : s.line.state = .halt r)
    (he : s.line.estop = false) (hd : s.sensing.debt = 0) :
    exec .resume s = .next (settleLine (inOrder (Config.otherOrder s.draws) examineHead examine
      { s.movedBy 0x04 tag rest r.lineState .resume with draws := s.draws + 1 })) := by
  have hdraws : (s.movedBy 0x04 tag rest r.lineState .resume).draws = s.draws := moveLine_draws _ _ _
  rw [exec_resume h, handleResume_of_halt (by exact hl), if_pos ⟨he, hd⟩, moveLine_respond_unanswered, inEitherOrder,
    State.onDraws, hdraws]

theorem exec_resume_refused (h : s.asked 0 [0x04, tag] rest)
    (hs : ∀ r, s.line.state = .halt r → s.line.estop = true ∨ s.sensing.debt ≠ 0) :
    exec .resume s = .next (s.taken rest (answer 0 0x04 tag .wrongState noResults)) := by
  rw [exec_resume h]
  refine next_of_refused (args := []) ?_
  by_cases hl : ∃ r, s.line.state = .halt r
  · obtain ⟨r, hl⟩ := hl
    rw [handleResume_of_halt (by exact hl), if_neg]
    rintro ⟨he, hd⟩
    rcases hs r hl with he' | hd'
    · exact Bool.false_ne_true (he.symm.trans he')
    · exact hd' hd
  · exact handleResume_of_not_halt fun r hr => hl ⟨r, hr⟩

end Sys2Proof.Machine

open Sys2Proof Sys2Proof.Machine

/-- Settles O49: each request by its conditions, and RESUME's two examinations by the free value that orders them. -/
theorem lineRequestsMoveTheLine : Obligations.LineRequestsMoveTheLine := by
  intro tag rest s moved refused
  refine ⟨fun h => ⟨exec_start_taken h, exec_start_refused h⟩, fun h => ⟨exec_drain_taken h, exec_drain_refused h⟩,
    fun h => ⟨fun r hl => ⟨fun he hd => ⟨_, exec_resume_taken h hl he hd, ?_⟩, fun hs => ?_⟩, fun hl => ?_⟩⟩
  · unfold inOrder
    split
    · exact .inr rfl
    · exact .inl rfl
  · exact exec_resume_refused h fun _ _ => hs
  · exact exec_resume_refused h fun r hr => absurd hr (hl r)
end

section
/-! SUPPORT. The line state after the operations that several commands share: none but a halt and the drain completion
test moves it, and neither does in HALT (R161 to R163). -/

namespace Sys2Proof.Machine

open Sys2Proof

variable (s : State)

/-! ## Notices, responses, outputs and cuts -/

@[simp] theorem lineState_raiseNotice (n : Notice) : (raiseNotice n s).line.state = s.line.state := by
  rw [raiseNotice_line]

@[simp] theorem lineState_respond (q : Request) (status : Status) (results : List Byte) :
    (respond q status results s).line.state = s.line.state := rfl

@[simp] theorem lineState_driveOutputs : (driveOutputs s).line.state = s.line.state := rfl

@[simp] theorem lineState_moveLine (new : LineState) (cause : LineCause) :
    (moveLine new cause s).line.state = new := by simp [moveLine]

theorem DiversionFrame.lineState {s t : State} (d : DiversionFrame s t) : t.line.state = s.line.state := by
  rw [d.line]

@[simp] theorem lineState_presentQuietly (k : OutletId) : (presentQuietly k s).line.state = s.line.state :=
  (presentQuietly_diversion k s).lineState

theorem lineState_cutPulse (k : OutletId) : (cutPulse s k).line.state = s.line.state := by
  unfold cutPulse
  split
  · rfl
  · rw [lineState_presentQuietly]
    rfl

@[simp] theorem lineState_cutPulses : (cutPulses s).line.state = s.line.state := by
  unfold cutPulses
  exact foldl_keeps (P := fun t => t.line.state = s.line.state) (fun t k ht => (lineState_cutPulse t k).trans ht)
    allOutlets rfl

@[simp] theorem lineState_discardItems : (discardItems s).line.state = s.line.state := rfl

/-- The end of an event moves the line by a completed drain alone (R161). -/
theorem lineState_settleLine : (settleLine s).line.state = if drainComplete s then .standby else s.line.state := by
  unfold settleLine testDrain
  split <;> simp

@[simp] theorem lineState_settleLine_of_ne {s : State} (h : s.line.state ≠ .drain) :
    (settleLine s).line.state = s.line.state := by
  rw [settleLine_of_not_complete fun hd => h hd.1, lineState_driveOutputs]

@[simp] theorem lineState_haltLine_of_still {s : State} (cause : LineCause) (h : s.line.state.moving = false) :
    (haltLine cause s).line.state = s.line.state := by
  rw [haltLine, h]
  rfl

/-! ## Diversions -/

@[simp] theorem lineState_examine : (examine s).line.state = s.line.state := (examine_diversion s).lineState

@[simp] theorem lineState_present (k : OutletId) : (present k s).line.state = s.line.state :=
  (present_diversion k s).lineState

@[simp] theorem lineState_reportLoss (k : OutletId) (before : Bool) :
    (reportLoss present k before s).line.state = s.line.state :=
  (reportLoss_diversion present_diversion k before s).lineState

@[simp] theorem lineState_evaluateTrack : (evaluateTrack s).line.state = s.line.state :=
  (evaluateTrack_diversion s).lineState

@[simp] theorem lineState_trackAdvance : (trackAdvance s).line.state = s.line.state := by
  rw [trackAdvance, retireAll, retireHeads_line, lineState_evaluateTrack]

@[simp] theorem lineState_endPulse (k : OutletId) (tag : SequenceTag) :
    (endPulse k tag s).line.state = s.line.state := by
  rw [endPulse, lineState_present, lineState_examine]
  rfl

/-! ## Admission -/

@[simp] theorem lineState_handOnOverflow (i : Nat) (n : DeviceCount) :
    (handOnOverflow i n s).line.state = s.line.state := by rw [(Quiet.handOnOverflow i n s).line]

@[simp] theorem lineState_examineHead : (examineHead s).line.state = s.line.state := by
  unfold examineHead
  split
  · rw [examineHeads_line]
  · rfl

@[simp] theorem lineState_admissionAdvance : (admissionAdvance s).line.state = s.line.state := by
  rw [admissionAdvance_line]

theorem lineState_inEitherOrder {first second : State → State} (hf : ∀ s, (first s).line.state = s.line.state)
    (hg : ∀ s, (second s).line.state = s.line.state) :
    (inEitherOrder first second s).line.state = s.line.state := by
  unfold inEitherOrder inOrder
  split
  · rw [hf, hg]; rfl
  · rw [hg, hf]; rfl

@[simp] theorem lineState_changeAccount (c f : Fin 6) (g : Accumulator → Accumulator) :
    (changeAccount c f g s).line.state = s.line.state := by rw [(Quiet.changeAccount c f g s).line]

/-! ## Outlets -/

@[simp] theorem lineState_enterFull (k : OutletId) (before : Bool) :
    (enterFull k before s).line.state = s.line.state := by simp [enterFull]

@[simp] theorem lineState_enterJam (k : OutletId) (before : Bool) :
    (enterJam k before s).line.state = s.line.state := by simp [enterJam]

@[simp] theorem lineState_takePlace (k : OutletId) (before : Bool) :
    (takePlace k before s).line.state = s.line.state := by
  unfold takePlace
  dsimp only
  split <;> simp

@[simp] theorem lineState_crateEffect (k : OutletId) (before : Bool) :
    (crateEffect k before s).line.state = s.line.state := by
  unfold crateEffect
  dsimp only
  split
  · rfl
  · split <;> simp

@[simp] theorem lineState_strayEvent (k : OutletId) (before : Bool) :
    (strayEvent k before s).line.state = s.line.state := by
  unfold strayEvent
  dsimp only
  split <;> simp

@[simp] theorem lineState_confirmationEvent (k : OutletId) (before : Bool) :
    (confirmationEvent k before s).line.state = s.line.state := by
  unfold confirmationEvent removeSorted
  dsimp only
  split
  · rfl
  · split
    · simp
    · split <;> simp

@[simp] theorem lineState_fallReady (k : OutletId) (before : Bool) :
    (fallReady k before s).line.state = s.line.state := by simp [fallReady]

@[simp] theorem lineState_timeoutHead (k : OutletId) : (timeoutHead k s).line.state = s.line.state := by
  unfold timeoutHead
  dsimp only
  split <;> simp

@[simp] theorem lineState_removeCrate (k : OutletId) : (removeCrate k s).line.state = s.line.state := by
  unfold removeCrate
  dsimp only
  split <;> simp

@[simp] theorem lineState_freshCrate (k : OutletId) : (freshCrate k s).line.state = s.line.state := by
  unfold freshCrate openOrJam
  split <;> simp

@[simp] theorem lineState_placeCrate (k : OutletId) : (placeCrate k s).line.state = s.line.state := by
  rw [(Quiet.placeCrate k s).line]

@[simp] theorem lineState_enterByMode (k : OutletId) : (enterByMode k s).line.state = s.line.state := by
  rw [(Quiet.enterByMode k s).line]

@[simp] theorem lineState_placeOutlet (k : OutletId) (p : Placement) :
    (placeOutlet k p s).line.state = s.line.state := by rw [(Quiet.placeOutlet k p s).line]

/-! ## Channels -/

@[simp] theorem lineState_copyDetected (c : ChannelId) (detected : Bool) :
    (copyDetected c detected s).line.state = s.line.state := by
  unfold copyDetected
  split
  · rfl
  · split <;> rfl

@[simp] theorem lineState_handDetection (c : ChannelId) : (handDetection c s).line.state = s.line.state := by
  unfold handDetection
  dsimp only
  split <;> split <;> simp

@[simp] theorem lineState_handRelease (c : ChannelId) : (handRelease c s).line.state = s.line.state := by
  unfold handRelease
  dsimp only
  split <;> simp

@[simp] theorem lineState_noticeChannel (c : ChannelId) (event : ChannelEvent) :
    (noticeChannel c event s).line.state = s.line.state := lineState_raiseNotice ..

@[simp] theorem lineState_detection (c : ChannelId) : (detection c s).line.state = s.line.state := by
  unfold detection
  dsimp only
  split <;> simp

@[simp] theorem lineState_releaseVerdict (c : ChannelId) : (releaseVerdict c s).line.state = s.line.state := by
  unfold releaseVerdict
  dsimp only
  split <;> simp

@[simp] theorem lineState_firstVerdict (c : ChannelId) (shown : Bool) :
    (firstVerdict c shown s).line.state = s.line.state := by
  unfold firstVerdict
  dsimp only
  split
  · split <;> simp
  · simp
  · split <;> simp

@[simp] theorem lineState_sampleFirst (c : ChannelId) (shown : Bool) :
    (sampleFirst c shown s).line.state = s.line.state := by
  unfold sampleFirst
  dsimp only
  split <;> simp

@[simp] theorem lineState_sampleWatching (c : ChannelId) (shown : Bool) :
    (sampleWatching c shown s).line.state = s.line.state := by
  unfold sampleWatching
  dsimp only
  split
  · rfl
  · split
    · rfl
    · split <;> simp

end Sys2Proof.Machine
end

section
/-! SUPPORT. A line in HALT stays there through every command but RESUME, STOP, INITIALIZE and power-on (section 10.1,
R33, R162 to R164). -/

namespace Sys2Proof.Machine

open Sys2Proof

variable {s t : State} {r : ResumeState}

theorem halt_next {u : State} (hx : (.next u : Result) = .next t) (hu : u.line.state = .halt r) :
    t.line.state = .halt r := keeps_next (P := fun t => t.line.state = .halt r) hu hx

/-! ## The encoder and the speed interval -/

theorem halt_execEncoderEvent (p : Phases) (hs : s.line.state = .halt r) (hx : execEncoderEvent p s = .next t) :
    t.line.state = .halt r := by
  have hs' : (takePhases p s).line.state = .halt r := hs
  unfold execEncoderEvent at hx
  split at hx
  · exact halt_next hx hs
  · refine halt_next hx ?_
    unfold forwardStep
    split
    · exact hs
    · have ha : (advance (takePhases p s)).line.state = .halt r :=
        (lineState_inEitherOrder _ lineState_admissionAdvance lineState_trackAdvance).trans hs'
      simp [ha]
  · refine halt_next hx ?_
    unfold reverseStep
    dsimp only
    split
    · rw [lineState_driveOutputs, raiseReverse_of_still (by rw [State.onSensing_line, hs']; rfl), lineState_raiseNotice]
      exact hs
    · exact hs
  · exact halt_next hx hs

theorem halt_execSpeedIntervalClose (hs : s.line.state = .halt r) (hx : execSpeedIntervalClose s = .next t) :
    t.line.state = .halt r := by
  have h1 : (recomputeLeads (closeInterval s)).line.state = .halt r := hs
  unfold execSpeedIntervalClose at hx
  split at hx
  · exact halt_next hx (by simp [h1])
  · exact halt_next hx hs

/-! ## The edges of the gate inputs -/

theorem halt_takeEdge {input : GateInput} {rising : Bool} {e : FilteredEdge} (hs : s.line.state = .halt r)
    (he : takeEdge input rising s = some (e, t)) : t.line.state = .halt r := by
  rw [(Quiet.takeEdge he).line, hs]

theorem halt_takeLeadingEdge (hs : s.line.state = .halt r) : (takeLeadingEdge s).line.state = .halt r := by
  unfold takeLeadingEdge
  split
  · exact hs
  · next he =>
    have h1 := halt_takeEdge hs he
    rw [leadingEdge_untracked _ (by simp [h1])]
    simp [h1]

theorem halt_takeTrailingEdge (hs : s.line.state = .halt r) : (takeTrailingEdge s).line.state = .halt r := by
  unfold takeTrailingEdge
  split
  · exact hs
  · next he =>
    have h1 := halt_takeEdge hs he
    unfold trailingEdge
    dsimp only
    split <;> simp [h1]

theorem halt_takeChuteRising (k : OutletId) (hs : s.line.state = .halt r) :
    (takeChuteRising k s).line.state = .halt r := by
  unfold takeChuteRising
  split
  · exact hs
  · next he =>
    have h1 := halt_takeEdge hs he
    split <;> simp [h1]

theorem halt_takeReadyRising (k : OutletId) (hs : s.line.state = .halt r) :
    (takeReadyRising k s).line.state = .halt r := by
  unfold takeReadyRising
  split
  · exact hs
  · next he => exact halt_takeEdge hs he

theorem halt_takeReadyFalling (k : OutletId) (hs : s.line.state = .halt r) :
    (takeReadyFalling k s).line.state = .halt r := by
  unfold takeReadyFalling
  split
  · exact hs
  · next he =>
    have h1 := halt_takeEdge hs he
    split <;> simp [h1]

theorem halt_takeCrateFalling (k : OutletId) (hs : s.line.state = .halt r) :
    (takeCrateFalling k s).line.state = .halt r := by
  unfold takeCrateFalling
  split
  · exact hs
  · next he => exact (lineState_removeCrate ..).trans (halt_takeEdge hs he)

theorem halt_takeCrateRising (k : OutletId) (hs : s.line.state = .halt r) :
    (takeCrateRising k s).line.state = .halt r := by
  unfold takeCrateRising
  split
  · exact hs
  · next he => exact (lineState_placeCrate ..).trans (halt_takeEdge hs he)

theorem halt_handOldest (hs : s.line.state = .halt r) : (handOldest s).line.state = .halt r := by
  unfold handOldest
  split
  · exact hs
  · split
    · exact halt_takeLeadingEdge hs
    · exact halt_takeTrailingEdge hs
    · exact halt_takeChuteRising _ hs
    · exact hs
    · exact halt_takeCrateRising _ hs
    · exact halt_takeCrateFalling _ hs
    · exact halt_takeReadyRising _ hs
    · exact halt_takeReadyFalling _ hs

theorem halt_handEdges (n : Nat) (hs : s.line.state = .halt r) : (handEdges n s).line.state = .halt r := by
  induction n generalizing s with
  | zero => exact hs
  | succ n ih => exact ih (halt_handOldest hs)

/-! ## The Identity Port -/

theorem halt_matchRecord (capture : CaptureNumber) (identity : Identity) (hs : s.line.state = .halt r) :
    (matchRecord capture identity s).line.state = .halt r := by
  unfold matchRecord attachRecord
  split
  · exact hs
  · split
    · exact hs
    · dsimp only
      split <;> simp [hs]

theorem halt_takeByte (value : Byte) (framingError : Bool) (hs : s.line.state = .halt r) :
    (takeByte value framingError s).line.state = .halt r := by
  unfold takeByte
  split
  · split <;> exact hs
  · split
    · exact hs
    · split
      · exact hs
      · unfold completeRecord
        split
        · exact hs
        · exact halt_matchRecord _ _ hs

/-! ## Expiries and samples -/

theorem halt_execFrameTimerExpiry (hs : s.line.state = .halt r) (hx : execFrameTimerExpiry s = .next t) :
    t.line.state = .halt r := by
  unfold execFrameTimerExpiry at hx
  split at hx
  · exact halt_next hx hs
  · split at hx <;> exact halt_next hx hs

theorem halt_execCaptureMessageBegin (hs : s.line.state = .halt r) (hx : execCaptureMessageBegin s = .next t) :
    t.line.state = .halt r := by
  unfold execCaptureMessageBegin at hx
  split at hx <;> exact halt_next hx hs

theorem halt_execPulseEnd (k : OutletId) (hs : s.line.state = .halt r) (hx : execPulseEnd k s = .next t) :
    t.line.state = .halt r := by
  unfold execPulseEnd at hx
  split at hx
  · exact halt_next hx hs
  · split at hx
    · exact halt_next hx (by simp [hs])
    · exact halt_next hx hs

theorem halt_execConfirmTimeout (k : OutletId) (hs : s.line.state = .halt r)
    (hx : execConfirmTimeout k s = .next t) : t.line.state = .halt r := by
  unfold execConfirmTimeout at hx
  split at hx
  · exact halt_next hx hs
  · split at hx
    · exact halt_next hx (by simp [hs])
    · exact halt_next hx hs

theorem halt_execSettleTimeExpiry (c : ChannelId) (hs : s.line.state = .halt r)
    (hx : execSettleTimeExpiry c s = .next t) : t.line.state = .halt r := by
  unfold execSettleTimeExpiry at hx
  split at hx
  · split at hx <;> exact halt_next hx hs
  · exact halt_next hx hs

theorem halt_execChannelSample (c : ChannelId) (above : Bool) (hs : s.line.state = .halt r)
    (hx : execChannelSample c above s = .next t) : t.line.state = .halt r := by
  have h1 : (scheduleSample c s).line.state = .halt r := hs
  unfold execChannelSample at hx
  split at hx
  · exact halt_next hx hs
  · split at hx
    · split at hx
      · exact halt_next hx (by simp [h1])
      · exact halt_next hx (by simp [h1])
      · exact halt_next hx hs
      · exact halt_next hx hs
    · exact halt_next hx hs

/-- The e-stop assertion finds the line halted already (R162). -/
theorem halt_execEstopAssertion (hs : s.line.state = .halt r) (hx : execEstopAssertion s = .next t) :
    t.line.state = .halt r := by
  refine halt_next hx ?_
  simp [hs, LineState.moving]

/-! ## Frames -/

theorem halt_execFrameArrival (frame : CanFrame) (remote : Bool) (hs : s.line.state = .halt r)
    (hx : execFrameArrival frame remote s = .next t) : t.line.state = .halt r := by
  unfold execFrameArrival receiveRequest at hx
  split at hx
  · exact halt_next hx hs
  · split at hx
    · exact halt_next hx hs
    · refine halt_next hx ?_
      split <;> exact hs

theorem halt_execFrameTransmitted (hs : s.line.state = .halt r) (hx : execFrameTransmitted s = .next t) :
    t.line.state = .halt r := by
  unfold execFrameTransmitted at hx
  split at hx <;> exact halt_next hx hs

theorem halt_execFrameTransmissionBegin (hs : s.line.state = .halt r)
    (hx : execFrameTransmissionBegin s = .next t) : t.line.state = .halt r := by
  unfold execFrameTransmissionBegin at hx
  split at hx <;> exact halt_next hx hs

theorem halt_execUnassignedRequestCode (hs : s.line.state = .halt r)
    (hx : execUnassignedRequestCode s = .next t) : t.line.state = .halt r := by
  unfold execUnassignedRequestCode at hx
  split at hx
  · exact halt_next hx hs
  · next ho => exact halt_next hx (by rw [lineState_respond, (Quiet.oldestRequest ho).line, hs])

/-! ## Requests -/

theorem oldestRequest_some {isFor : Request → Bool} {places : Nat} {q : Request}
    (ho : oldestRequest isFor places s = some (q, t)) : ∃ rest, t = s.unanswered rest := by
  unfold oldestRequest at ho
  split at ho
  · cases ho
  · next _ rest _ =>
    split at ho
    · cases ho
      exact ⟨rest, rfl⟩
    · cases ho

/-- A request command leaves the Line Controller, or runs its handler on the state with the request taken. -/
theorem takeRequestWith_cases (places code length : Nat) (linkOnly : Bool) (handle : Request → State → State)
    (s : State) : (takeRequestWith places code length linkOnly handle s).line = s.line ∨
      ∃ q rest, takeRequestWith places code length linkOnly handle s = handle q (s.unanswered rest) := by
  unfold takeRequestWith
  split
  · exact .inl rfl
  · next q s1 ho =>
    obtain ⟨rest, rfl⟩ := oldestRequest_some ho
    split
    · exact .inl rfl
    · split
      · exact .inl rfl
      · exact .inr ⟨q, rest, rfl⟩

/-- A handler that leaves the line in the HALT it is in. -/
def KeepsHalt (handle : Request → State → State) : Prop :=
  ∀ (q : Request) (r : ResumeState) (s : State), s.line.state = .halt r → (handle q s).line.state = .halt r

namespace KeepsHalt

variable {handle : Request → State → State}

theorem takeRequestWith {places code length : Nat} {linkOnly : Bool} (hh : KeepsHalt handle)
    (hs : s.line.state = .halt r)
    (hx : (.next (takeRequestWith places code length linkOnly handle s) : Result) = .next t) :
    t.line.state = .halt r := by
  refine halt_next hx ?_
  rcases takeRequestWith_cases places code length linkOnly handle s with h | ⟨q, rest, h⟩
  · rw [h, hs]
  · rw [h]
    exact hh q r _ hs

theorem takeRequest {code length : Nat} {linkOnly : Bool} (hh : KeepsHalt handle) (hs : s.line.state = .halt r)
    (hx : (.next (takeRequest code length linkOnly handle s) : Result) = .next t) : t.line.state = .halt r :=
  hh.takeRequestWith hs hx

theorem answerRead (f : Request → State → Option (List Byte)) : KeepsHalt (answerRead f) := fun q r s hs => by
  unfold Machine.answerRead
  split <;> exact hs

/-! ### Requests to the line, the Air Arbiter and the geometry -/

theorem handleStart : KeepsHalt handleStart := fun q r s hs => by
  rw [Machine.handleStart, if_neg (by simp [hs])]
  exact hs

theorem handleDrain : KeepsHalt handleDrain := fun q r s hs => by
  rw [Machine.handleDrain, if_neg (by simp [hs])]
  exact hs

theorem handleSetGeometry : KeepsHalt handleSetGeometry := fun q r s hs => by
  rw [Machine.handleSetGeometry, if_neg (by simp [hs])]
  exact hs

theorem handleSetSpeedCodes : KeepsHalt handleSetSpeedCodes := fun q r s hs => by
  unfold Machine.handleSetSpeedCodes
  dsimp only
  split <;> exact hs

theorem handleSetAir : KeepsHalt handleSetAir := fun q r s hs => by
  unfold Machine.handleSetAir writeAir
  dsimp only
  split
  · exact hs
  · split
    · split <;> simp [hs]
    · exact hs

/-! ### Requests to an outlet -/

theorem withOutlet {f : Request → OutletId → State → State} (hf : ∀ q k, KeepsHalt fun _ s => f q k s) :
    KeepsHalt fun q s => withOutlet q (f q) s := fun q r s hs => by
  dsimp only
  unfold Machine.withOutlet
  split
  · exact hs
  · split
    · exact hf _ _ q _ _ hs
    · exact hs

theorem handleMask : KeepsHalt handleMask := withOutlet fun q k _ r s hs => by simp [hs]

theorem handleUnmask : KeepsHalt handleUnmask := withOutlet fun _ _ _ _ _ hs => hs

theorem handleSetCrate : KeepsHalt handleSetCrate := withOutlet fun q k _ r s hs => by
  dsimp only
  split
  · exact hs
  · split <;> exact hs

theorem handleReloadCrate : KeepsHalt handleReloadCrate := withOutlet fun q k _ r s hs => by
  dsimp only
  split <;> simp [hs]

theorem handleClearJam : KeepsHalt handleClearJam := withOutlet fun q k _ r s hs => by
  dsimp only
  split <;> simp [hs]

theorem handleSetPlaceTiming : KeepsHalt handleSetPlaceTiming := fun q r s hs => by
  unfold Machine.handleSetPlaceTiming
  split <;> exact hs

theorem handleSetOutletPlace : KeepsHalt handleSetOutletPlace := fun q r s hs => by
  unfold Machine.handleSetOutletPlace
  split
  · exact hs
  · split
    · exact hs
    · split
      · exact hs
      · split <;> simp [hs]

/-! ### Routes, channels and balances -/

theorem handleSetRoute : KeepsHalt handleSetRoute := fun q r s hs => by
  unfold Machine.handleSetRoute
  split
  · split
    · split
      · split
        · exact hs
        · split <;> exact hs
      · exact hs
    · exact hs
  · exact hs

theorem withChannel {f : Request → ChannelId → State → State} (hf : ∀ q c, KeepsHalt fun _ s => f q c s) :
    KeepsHalt fun q s => withChannel q (f q) s := fun q r s hs => by
  dsimp only
  unfold Machine.withChannel
  split
  · exact hs
  · split
    · exact hf _ _ q _ _ hs
    · exact hs

theorem handleSetChannel : KeepsHalt handleSetChannel := withChannel fun q c _ r s hs => by
  dsimp only
  split
  · split
    · split <;> exact hs
    · exact hs
  · exact hs

theorem handleEnableChannel : KeepsHalt handleEnableChannel := withChannel fun q c _ r s hs => by
  dsimp only
  split <;> exact hs

theorem handleChannelOff : KeepsHalt handleChannelOff := withChannel fun q c _ r s hs => by
  dsimp only
  split <;> simp [hs]

theorem withAccount {allowed : Fin 6 → StationId → Bool} {f : Request → Fin 6 → Fin 6 → State → State}
    (hf : ∀ q c i, KeepsHalt fun _ s => f q c i s) : KeepsHalt fun q s => withAccount q allowed (f q) s :=
  fun q r s hs => by
    dsimp only
    unfold Machine.withAccount
    split
    · split
      · exact hf _ _ _ q _ _ hs
      · exact hs
    · exact hs

theorem handleIssue : KeepsHalt handleIssue := withAccount fun q c f _ r s hs => by
  dsimp only
  split <;> simp [takeChange, hs]

theorem handleAdjust : KeepsHalt handleAdjust := withAccount fun q c f _ r s hs => by
  dsimp only
  split <;> simp [takeChange, hs]

theorem handleSetValue : KeepsHalt handleSetValue := withAccount fun q c f _ r s hs => by simp [takeChange, hs]

theorem handleSetThreshold : KeepsHalt handleSetThreshold := withAccount fun q c f _ r s hs => by
  dsimp only
  split <;> simp [takeChange, hs]

theorem handleClearFlags : KeepsHalt handleClearFlags := withAccount fun _ _ _ _ _ _ hs => hs

theorem handleSetBalanceMode : KeepsHalt handleSetBalanceMode := fun q r s hs => by
  unfold Machine.handleSetBalanceMode
  split
  · exact hs
  · split
    · split <;> exact hs
    · exact hs

/-! ### Masks and polls -/

theorem handleSetNoticeMask : KeepsHalt handleSetNoticeMask := fun _ _ _ hs => hs

theorem handlePollNotices : KeepsHalt handlePollNotices := fun q r s hs => by
  have hplaced : ∀ (l : List Notice) {s : State}, s.line.state = .halt r →
      (l.foldl (fun s n => placeFrame (noticeFrame q.station n) s) s).line.state = .halt r :=
    foldl_keeps fun _ _ h => h
  unfold Machine.handlePollNotices
  dsimp only
  split <;> exact hplaced _ hs

end KeepsHalt

/-! ## The commands -/

/-- The commands that may move a halted line (section 10.1). -/
inductive LeavesHalt : Instr → Prop
  | resume : LeavesHalt .resume
  | stop : LeavesHalt .stop
  | initializeLine : LeavesHalt .initializeLine
  | powerOn (p : Phases) (e : Bool) : LeavesHalt (.powerOn p e)

theorem halt_exec {c : Instr} (hc : ¬ LeavesHalt c) (hs : s.line.state = .halt r) (hx : exec c s = .next t) :
    t.line.state = .halt r := by
  cases c with
  | powerOn p e => exact absurd (.powerOn p e) hc
  | resume => exact absurd .resume hc
  | stop => exact absurd .stop hc
  | initializeLine => exact absurd .initializeLine hc
  | encoderEvent p => exact halt_execEncoderEvent p hs hx
  | speedIntervalClose => exact halt_execSpeedIntervalClose hs hx
  | geLeadingEdge => exact halt_next hx (halt_takeLeadingEdge hs)
  | geTrailingEdge => exact halt_next hx (halt_takeTrailingEdge hs)
  | chuteGateRising k => exact halt_next hx (halt_takeChuteRising k hs)
  | crateRemoved k => exact halt_next hx (halt_takeCrateFalling k hs)
  | cratePlaced k => exact halt_next hx (halt_takeCrateRising k hs)
  | readyLineRising k => exact halt_next hx (halt_takeReadyRising k hs)
  | readyLineFalling k => exact halt_next hx (halt_takeReadyFalling k hs)
  | receiveByte value framingError => exact halt_next hx (halt_takeByte value framingError hs)
  | frameTimerExpiry => exact halt_execFrameTimerExpiry hs hx
  | captureMessageBegin => exact halt_execCaptureMessageBegin hs hx
  | captureMessageSent => exact halt_next hx hs
  | pulseEnd k => exact halt_execPulseEnd k hs hx
  | confirmTimeout k => exact halt_execConfirmTimeout k hs hx
  | estopAssertion => exact halt_execEstopAssertion hs hx
  | estopRelease => exact halt_next hx hs
  | settleTimeExpiry c => exact halt_execSettleTimeExpiry c hs hx
  | channelSample c above => exact halt_execChannelSample c above hs hx
  | frameArrival frame remote => exact halt_execFrameArrival frame remote hs hx
  | frameTransmitted => exact halt_execFrameTransmitted hs hx
  | frameTransmissionBegin => exact halt_execFrameTransmissionBegin hs hx
  | unassignedRequestCode => exact halt_execUnassignedRequestCode hs hx
  | inputSample ge chutes crates readies => exact halt_next hx (halt_handEdges _ hs)
  | start => exact KeepsHalt.handleStart.takeRequest hs hx
  | drain => exact KeepsHalt.handleDrain.takeRequest hs hx
  | setGeometry => exact KeepsHalt.handleSetGeometry.takeRequest hs hx
  | setSpeedCodes => exact KeepsHalt.handleSetSpeedCodes.takeRequest hs hx
  | setAir => exact KeepsHalt.handleSetAir.takeRequest hs hx
  | setPlaceTiming => exact KeepsHalt.handleSetPlaceTiming.takeRequest hs hx
  | setOutletPlace => exact KeepsHalt.handleSetOutletPlace.takeRequest hs hx
  | mask => exact KeepsHalt.handleMask.takeRequest hs hx
  | unmask => exact KeepsHalt.handleUnmask.takeRequest hs hx
  | setCrate => exact KeepsHalt.handleSetCrate.takeRequest hs hx
  | reloadCrate => exact KeepsHalt.handleReloadCrate.takeRequest hs hx
  | clearJam => exact KeepsHalt.handleClearJam.takeRequest hs hx
  | setRoute => exact KeepsHalt.handleSetRoute.takeRequest hs hx
  | setChannel => exact KeepsHalt.handleSetChannel.takeRequest hs hx
  | enableChannel => exact KeepsHalt.handleEnableChannel.takeRequest hs hx
  | channelOff => exact KeepsHalt.handleChannelOff.takeRequest hs hx
  | issue => exact KeepsHalt.handleIssue.takeRequest hs hx
  | adjust => exact KeepsHalt.handleAdjust.takeRequest hs hx
  | setValue => exact KeepsHalt.handleSetValue.takeRequest hs hx
  | setBalanceMode => exact KeepsHalt.handleSetBalanceMode.takeRequest hs hx
  | setThreshold => exact KeepsHalt.handleSetThreshold.takeRequest hs hx
  | clearFlags => exact KeepsHalt.handleClearFlags.takeRequest hs hx
  | readLine => exact (KeepsHalt.answerRead _).takeRequest hs hx
  | readOutlet => exact (KeepsHalt.answerRead _).takeRequest hs hx
  | readConfirmQueue => exact (KeepsHalt.answerRead _).takeRequest hs hx
  | readTrackEntry => exact (KeepsHalt.answerRead _).takeRequest hs hx
  | readPending => exact (KeepsHalt.answerRead _).takeRequest hs hx
  | readRoute => exact (KeepsHalt.answerRead _).takeRequest hs hx
  | readChannel => exact (KeepsHalt.answerRead _).takeRequest hs hx
  | readBalance => exact (KeepsHalt.answerRead _).takeRequest hs hx
  | readCounts => exact (KeepsHalt.answerRead _).takeRequest hs hx
  | setNoticeMask => exact KeepsHalt.handleSetNoticeMask.takeRequest hs hx
  | pollNotices => exact KeepsHalt.handlePollNotices.takeRequestWith hs hx

/-! ## The ways out of HALT (R164 to R166) -/

/-- A RESUME that is taken moves the line to its resume state, and past a completed drain to STANDBY; one that is
refused leaves the HALT. -/
theorem lineState_handleResume (q : Request) (hs : s.line.state = .halt r) :
    (handleResume q s).line.state = .halt r ∨
      s.line.estop = false ∧ s.sensing.debt = 0 ∧
        ((handleResume q s).line.state = r.lineState ∨ r = .drain ∧ (handleResume q s).line.state = .standby) := by
  rw [handleResume_of_halt hs]
  split
  · next hfree =>
    have hmoved : (inEitherOrder examineHead examine
        (moveLine r.lineState .resume (respond q .done [] s))).line.state = r.lineState :=
      (lineState_inEitherOrder _ lineState_examineHead lineState_examine).trans (lineState_moveLine ..)
    refine .inr ⟨hfree.1, hfree.2, ?_⟩
    rw [lineState_settleLine, hmoved]
    split
    · next hd =>
      have hdrain : r.lineState = .drain := hmoved.symm.trans ((drainComplete_iff _).1 hd).1
      refine .inr ⟨?_, rfl⟩
      cases r with
      | run => cases hdrain
      | drain => rfl
    · exact .inl rfl
  · exact .inl hs

theorem lineState_handleStop (q : Request) (hs : s.line.state = .halt r) : (handleStop q s).line.state = .standby := by
  simp [handleStop_of_moved (show s.line.state ≠ .standby by simp [hs])]

theorem lineState_handleInitialize (q : Request) (s : State) : (handleInitialize q s).line.state = .standby := by
  simp [handleInitialize, initializeBlocks]

/-- A request that is taken out of HALT ran its handler. -/
theorem handled_of_left {code length : Nat} {linkOnly : Bool} {handle : Request → State → State}
    (hx : (.next (takeRequest code length linkOnly handle s) : Result) = .next t) (hs : s.line.state = .halt r)
    (ht : t.line.state ≠ .halt r) : ∃ q rest, t = handle q (s.unanswered rest) := by
  cases hx
  rcases takeRequestWith_cases 1 code length linkOnly handle s with h | h
  · exact absurd ((congrArg Line.state h).trans hs) ht
  · exact h

end Sys2Proof.Machine

open Sys2Proof Sys2Proof.Machine

/-- Settles O14: every other command keeps the HALT, and each way out by what its handler does. -/
theorem haltIsLeftByRequestsAlone : Obligations.HaltIsLeftByRequestsAlone := by
  intro c s t r hx hs ht
  have hc : LeavesHalt c := by
    by_contra hc
    exact ht (halt_exec hc hs hx)
  cases hc with
  | resume =>
    obtain ⟨q, rest, rfl⟩ := handled_of_left hx hs ht
    rcases lineState_handleResume q (s := s.unanswered rest) hs with hk | ⟨he, hd, hl⟩
    · exact absurd hk ht
    · exact .inl ⟨rfl, he, hd, hl⟩
  | stop =>
    obtain ⟨q, rest, rfl⟩ := handled_of_left hx hs ht
    exact .inr ⟨.inl rfl, lineState_handleStop q (s := s.unanswered rest) hs⟩
  | initializeLine =>
    obtain ⟨q, rest, rfl⟩ := handled_of_left hx hs ht
    exact .inr ⟨.inr (.inl rfl), lineState_handleInitialize ..⟩
  | powerOn p e =>
    cases hx
    exact .inr ⟨.inr (.inr ⟨p, e, rfl⟩), rfl⟩
end

section
/-! SUPPORT. The frames of the service link: which identifiers are requests, and what an arriving frame is (R170,
R171). -/

namespace Sys2Proof.Machine

open Sys2Proof

/-- The identifier of station `a`'s requests is that station's alone (R170). -/
theorem requestStation_eq_some {id : BitVec 11} {a : StationId} (h : id.toNat = 0x640 + a.val) :
    requestStation id = some a := by
  have hrange : ¬ id.toNat < 0x640 := by omega
  rw [requestStation, if_neg hrange, stationOf_eq]
  omega

/-- An identifier outside 0x640 to 0x646 is no request's (R170). -/
theorem requestStation_eq_none {id : BitVec 11} (h : id.toNat < 0x640 ∨ 0x646 < id.toNat) :
    requestStation id = none := by
  unfold requestStation
  split
  · rfl
  · exact stationOf_of_gt (by omega)

theorem exec_frameArrival_request {f : CanFrame} {a : StationId} (h : f.identifier.toNat = 0x640 + a.val) (s : State) :
    exec (.frameArrival f false) s = .next (receiveRequest { station := a, data := f.data } s) := by
  show execFrameArrival f false s = _
  rw [execFrameArrival, requestStation_eq_some h]
  rfl

theorem exec_frameArrival_ignored {f : CanFrame} {remote : Bool}
    (h : remote = true ∨ f.identifier.toNat < 0x640 ∨ 0x646 < f.identifier.toNat) (s : State) :
    exec (.frameArrival f remote) s = .next s := by
  show execFrameArrival f remote s = _
  unfold execFrameArrival
  split
  · rfl
  · next hsome =>
    obtain hremote | hid := h
    · exact if_pos hremote
    · rw [requestStation_eq_none hid] at hsome
      cases hsome

end Sys2Proof.Machine

open Sys2Proof Sys2Proof.Machine

/-- Settles O46: a frame is a request by its identifier, and a queue takes or gives up its frames by its length. -/
theorem linkFramesPass : Obligations.LinkFramesPass := by
  refine ⟨fun f a s hid => ?_, fun f remote s h => exec_frameArrival_ignored h s,
    fun s => ⟨fun hq => ?_, fun hq => ?_⟩, fun s => ⟨fun ht => ?_, fun ht => ?_⟩⟩
  · rw [exec_frameArrival_request hid]
    exact ⟨fun hroom => congrArg _ (if_pos hroom), fun hfull => congrArg _ (if_neg hfull.not_gt)⟩
  · exact if_neg (by simpa using hq)
  · exact if_pos (by simpa using hq)
  · simp only [List.drop_one]
    exact if_pos ht
  · exact if_neg (by simp [ht])
end

section
/-! SUPPORT. The request table: each row's command takes the oldest request of its code by the row's length, sender and
free places, and the codes of the rows are the assigned ones (R170 to R172). -/

namespace Sys2Proof.Machine

open Sys2Proof

variable {c : Instr} {row : RequestRow} {s : State} {a : StationId} {rest : List Request}

/-- The commands of the request table, in the order of their codes (sections 11.3 and 11.4). -/
def requestCommands : List Instr :=
  [.start, .drain, .stop, .resume, .initializeLine, .setGeometry, .setSpeedCodes, .setAir, .setPlaceTiming,
   .setOutletPlace, .mask, .unmask, .setCrate, .reloadCrate, .clearJam, .setRoute, .setChannel, .enableChannel,
   .channelOff, .issue, .adjust, .setValue, .setBalanceMode, .setThreshold, .clearFlags, .readLine, .readOutlet,
   .readConfirmQueue, .readTrackEntry, .readPending, .readRoute, .readChannel, .readBalance, .readCounts,
   .setNoticeMask, .pollNotices]

theorem mem_requestCommands (h : requestRow c = some row) : c ∈ requestCommands := by
  cases c <;> cases h <;> decide

theorem assignedCodes_eq :
    assignedCodes = requestCommands.filterMap fun c => (requestRow c).map fun row => row.code.toNat := rfl

/-- A code is assigned when a row of the request table carries it. -/
theorem mem_assignedCodes_iff (n : Nat) :
    n ∈ assignedCodes ↔ ∃ c row, requestRow c = some row ∧ row.code.toNat = n := by
  simp only [assignedCodes_eq, List.mem_filterMap, Option.map_eq_some_iff]
  constructor
  · rintro ⟨c, -, row, hrow, hn⟩
    exact ⟨c, row, hrow, hn⟩
  · rintro ⟨c, row, hrow, hn⟩
    exact ⟨c, mem_requestCommands hrow, row, hrow, hn⟩

/-- What a command of the request table does with a request that passed the link's checks. -/
def handlerOf : Instr → Request → State → State
  | .start => handleStart
  | .drain => handleDrain
  | .stop => handleStop
  | .resume => handleResume
  | .initializeLine => handleInitialize
  | .setGeometry => handleSetGeometry
  | .setSpeedCodes => handleSetSpeedCodes
  | .setAir => handleSetAir
  | .setPlaceTiming => handleSetPlaceTiming
  | .setOutletPlace => handleSetOutletPlace
  | .mask => handleMask
  | .unmask => handleUnmask
  | .setCrate => handleSetCrate
  | .reloadCrate => handleReloadCrate
  | .clearJam => handleClearJam
  | .setRoute => handleSetRoute
  | .setChannel => handleSetChannel
  | .enableChannel => handleEnableChannel
  | .channelOff => handleChannelOff
  | .issue => handleIssue
  | .adjust => handleAdjust
  | .setValue => handleSetValue
  | .setBalanceMode => handleSetBalanceMode
  | .setThreshold => handleSetThreshold
  | .clearFlags => handleClearFlags
  | .readLine => answerRead lineAnswer
  | .readOutlet => answerRead outletAnswer
  | .readConfirmQueue => answerRead confirmAnswer
  | .readTrackEntry => answerRead trackAnswer
  | .readPending => answerRead pendingAnswer
  | .readRoute => answerRead routeAnswer
  | .readChannel => answerRead channelAnswer
  | .readBalance => answerRead balanceAnswer
  | .readCounts => answerRead countsAnswer
  | .setNoticeMask => handleSetNoticeMask
  | .pollNotices => handlePollNotices
  | _ => fun _ s => s

/-- A request command is the taking its row describes. -/
theorem exec_request (h : requestRow c = some row) (s : State) : exec c s =
    .next (takeRequestWith row.places row.code.toNat row.length row.linkOnly (handlerOf c) s) := by
  cases c <;> cases h <;> rfl

theorem places_pos (h : requestRow c = some row) : 1 ≤ row.places := by
  cases c <;> cases h <;> decide

theorem hasCode_eq_false {q : Request} {code : Byte} (h : q.data.length < 2 ∨ q.data[0]? ≠ some code) :
    q.hasCode code.toNat = false := by
  obtain ⟨b, data⟩ := q
  simp only [Request.hasCode, Bool.and_eq_false_iff, decide_eq_false_iff_not, beq_eq_false_iff_ne]
  rcases h with hshort | hcode
  · exact .inl (by simpa using hshort)
  · cases data with
    | nil => exact .inl (by simp)
    | cons x l =>
      refine .inr fun hx => hcode ?_
      exact congrArg some (BitVec.eq_of_toNat_eq hx)

/-! ## Requests of no block -/

/-- A request of no row is taken with one free place and answered (R172). -/
theorem exec_unassigned {data : List Byte} (h : s.asked a data rest)
    (hu : Request.unassigned { station := a, data := data } = true) :
    exec .unassignedRequestCode s =
      .next (respond { station := a, data := data } (if data.length < 2 then .badLength else .unknown) []
        (s.unanswered rest)) := by
  obtain ⟨hq, hroom⟩ := h
  have hplace : 1 ≤ 16 - s.link.transmitQueue.length := by omega
  show execUnassignedRequestCode s = _
  simp only [execUnassignedRequestCode, oldestRequest, hq, hu, freePlaces, hplace, decide_true, Bool.and_self, if_true]
  rfl

/-- A request of a row is left to its command. -/
theorem exec_unassigned_other {data : List Byte} (h : s.asked a data rest)
    (hu : Request.unassigned { station := a, data := data } = false) : exec .unassignedRequestCode s = .next s := by
  show execUnassignedRequestCode s = _
  simp only [execUnassignedRequestCode, oldestRequest, h.1, hu, Bool.false_and, Bool.false_eq_true, if_false]

theorem unassigned_of_tagged (a : StationId) (code tag : Byte) (args : List Byte) :
    Request.unassigned { station := a, data := code :: tag :: args } = true ↔
      ∀ c row, requestRow c = some row → row.code ≠ code := by
  have hmem : code.toNat ∈ assignedCodes ↔ ∃ c row, requestRow c = some row ∧ row.code = code := by
    simp only [mem_assignedCodes_iff, BitVec.toNat_inj]
  simp [Request.unassigned, Request.byte_cons_zero, hmem]

end Sys2Proof.Machine

open Sys2Proof Sys2Proof.Machine

/-- Settles O47: a request of no row by its length and its code, and a request of a row by the row's own checks. -/
theorem linkChecksComeFirst : Obligations.LinkChecksComeFirst := by
  refine ⟨fun a rest s => ⟨fun h => exec_unassigned h rfl, fun code h => exec_unassigned h rfl,
    fun code tag args h => ⟨fun hnone => ?_, fun c row hrow hcode => ?_⟩⟩,
    fun c row a tag args rest s hrow hq hplaces => ?_, fun c row s hrow => ?_⟩
  · rw [exec_unassigned h ((unassigned_of_tagged ..).2 hnone), if_neg (by simp)]
    exact congrArg _ (respond_unanswered a code tag args .unknown [] rest s)
  · refine exec_unassigned_other h (Bool.eq_false_iff.2 fun hu => ?_)
    exact (unassigned_of_tagged ..).1 hu c row hrow hcode
  · rw [exec_request hrow, taking_of_queue hq row.places row.length row.linkOnly _ hplaces]
    exact ⟨fun hl => congrArg _ (if_pos hl),
      fun hl hlink ha => congrArg _ ((if_neg (not_not.2 hl)).trans (if_pos ⟨hlink, ha⟩))⟩
  · rw [exec_request hrow]
    exact ⟨fun hfull => congrArg _ (takeRequestWith_waits _ _ _ _ (places_pos hrow) hfull),
      fun hq => congrArg _ (takeRequestWith_empty _ _ _ _ _ hq),
      fun q rest hq hother => congrArg _ (takeRequestWith_other _ _ _ _ _ hq (hasCode_eq_false hother))⟩
end

section
/-! SUPPORT. The requests to the Link Interface itself: the sender's mask, and the polling of its notices (R176, R178,
R179). -/

namespace Sys2Proof.Machine

open Sys2Proof

/-- SET NOTICE MASK answers the mask as it writes it (R176). -/
theorem handleSetNoticeMask_eq (a : StationId) (tag mask : Byte) (rest : List Request) (s : State) :
    handleSetNoticeMask { station := a, data := [0x3E, tag, mask] } (s.unanswered rest) =
      (s.taken rest (answer a 0x3E tag .done [mask, 0, 0, 0, 0])).onStation a fun st => { st with mask := mask } := by
  have hmask : BitVec.ofNat 8 (Request.byte { station := a, data := [0x3E, tag, mask] } 2) = mask :=
    BitVec.ofNat_toNat ..
  simp only [handleSetNoticeMask, hmask]
  rw [respond_unanswered]
  rfl

/-- Frames placed one behind the other. -/
theorem foldl_placeFrame (frame : Notice → CanFrame) (l : List Notice) (s : State) :
    l.foldl (fun s n => placeFrame (frame n) s) s =
      s.onLink fun link => { link with transmitQueue := link.transmitQueue ++ l.map frame } := by
  induction l generalizing s with
  | nil => simp [State.onLink]
  | cons n l ih =>
    rw [List.foldl_cons, ih]
    simp [placeFrame, State.onLink]

/-- The bytes a poll reports: the pairs removed, the flag, and the pairs left (R178). -/
def pollReport (st : StationLink) : List Byte :=
  [BitVec.ofNat 8 (st.notices.take 2).length, if st.lost = true then 1 else 0,
    BitVec.ofNat 8 (st.notices.length - (st.notices.take 2).length), 0, 0]

theorem padTo_pollReport (st : StationLink) :
    padTo 5 (bytes1 (st.notices.take 2).length ++ bytes1 (flagCode st.lost) ++ bytes1 (st.notices.drop 2).length) =
      pollReport st := by
  have hleft : (st.notices.drop 2).length = st.notices.length - (st.notices.take 2).length := by
    rw [List.length_drop, List.length_take]
    omega
  have hflag : BitVec.ofNat 8 (flagCode st.lost) = if st.lost = true then 1 else 0 := by
    cases st.lost <;> rfl
  rw [hleft, pollReport, ← hflag]
  rfl

/-- The state after a poll but for the overflow arm: the pairs off the head of the sender's set, the flag cleared, the
response, and behind it the frames of the pairs (R178). -/
def State.polled (a : StationId) (tag : Byte) (rest : List Request) (s : State) : State :=
  let st := s.link.stations[a]
  { s with
    link :=
      { s.link with
        receiveQueue := rest
        transmitQueue := s.link.transmitQueue ++
          answer a 0x3F tag .done (pollReport st) :: (st.notices.take 2).map (noticeFrame a)
        stations := s.link.stations.set a { st with notices := st.notices.drop 2, lost := false } } }

/-- A poll of station 0 sets the overflow arm besides (R179). -/
theorem handlePollNotices_eq (a : StationId) (tag : Byte) (rest : List Request) (s : State) :
    handlePollNotices { station := a, data := [0x3F, tag] } (s.unanswered rest) =
      if a = 0 then (s.polled a tag rest).onLink fun l => { l with overflowArm := true } else s.polled a tag rest := by
  have hframes : (s.link.stations[a].notices.take 2).foldl (fun s n => placeFrame (noticeFrame a n) s)
      ((s.onStation a fun st => { st with notices := s.link.stations[a].notices.drop 2, lost := false }).taken rest
        (answer a 0x3F tag .done (pollReport s.link.stations[a]))) = s.polled a tag rest := by
    rw [foldl_placeFrame, State.polled, ← List.singleton_append, ← List.append_assoc]
    rfl
  rw [← hframes, ← padTo_pollReport, ← respond_unanswered a 0x3F tag []]
  rfl

end Sys2Proof.Machine

open Sys2Proof Sys2Proof.Machine

/-- Settles O48: the handlers of the two requests, on the state with the request taken. -/
theorem masksAndPolls : Obligations.MasksAndPolls := by
  refine ⟨fun a tag mask rest s h => ?_, fun a tag rest s h hroom => ?_⟩
  · rw [← handleSetNoticeMask_eq]
    exact congrArg Host.Outcome.next (takeRequest_asked (code := 0x3E) h handleSetNoticeMask rfl nofun)
  · have hexec : exec .pollNotices s = .next (handlePollNotices _ (s.unanswered rest)) :=
      congrArg Host.Outcome.next
        (takeRequestWith_asked (code := 0x3F) h (places := 3) handlePollNotices (by omega) rfl nofun)
    rw [hexec, handlePollNotices_eq]
    split <;> rfl
end

section
/-! SUPPORT. The raising of a notice: its addressees, the sets it enters, the frames it places or skips, and the bytes
of a frame of each kind (R170, R173, R176, R177, section 11.5). -/

namespace Sys2Proof.Machine

open Sys2Proof

variable {s t : State} {n : Notice}

/-! ## The stations addressed (R176) -/

theorem addressees_jam (k : OutletId) (m : ShortCount) (s : State) :
    addressees (.jam k m) s = if s.outlets[k].owner = 0 then [0] else [s.outlets[k].owner, 0] := rfl

theorem addressees_channel_of_probe {c : ChannelId} {k : OutletId} (h : c.val = k.val) (ev : ChannelEvent) (x y : Nat)
    (m : ShortCount) (s : State) : addressees (.channel c ev x y) s = addressees (.jam k m) s := by
  have hprobe : probedOutlet c = some k := by
    simp only [probedOutlet, h, k.isLt, dif_pos]
  have howner : channelOwner c s = s.outlets[k].owner := by
    simp only [channelOwner, hprobe]
  rw [addressees_jam, ← howner]
  rfl

theorem addressees_channel_of_line {c : ChannelId} (h : c = airChannel ∨ c = resChannel) (ev : ChannelEvent)
    (x y : Nat) (s : State) : addressees (.channel c ev x y) s = [0] := by
  obtain rfl | rfl := h <;> rfl

theorem addressees_balanceHigh (c f : Fin 6) (v x : Int) (m : Nat) (s : State) :
    addressees (.balanceHigh c f v x m) s = [c.succ, 0] :=
  if_neg (t := [0]) (Fin.succ_ne_zero c)

theorem nodup_owner (owner : StationId) : (if owner = 0 then [0] else [owner, 0]).Nodup := by
  split <;> simp [*]

/-- No station is addressed twice. -/
theorem nodup_addressees (n : Notice) (s : State) : (addressees n s).Nodup := nodup_owner _

/-! ## What one station gets -/

/-- A notice changes the transmit queue, the notice sets and NOTICE FRAMES SKIPPED at most. -/
def NoticedAlone (s t : State) : Prop :=
  ∃ queue stations skipped,
    t = { s with link :=
            { s.link with transmitQueue := queue, stations := stations, framesSkipped := skipped } }

theorem noticedAlone_noticeTo (n : Notice) (a : StationId) (h : NoticedAlone s t) :
    NoticedAlone s (noticeTo n t a) := by
  obtain ⟨queue, stations, skipped, rfl⟩ := h
  unfold noticeTo placeNoticeFrame
  split
  · split <;> exact ⟨_, _, _, rfl⟩
  · exact ⟨_, _, _, rfl⟩

theorem noticedAlone_raiseNotice (n : Notice) (s : State) : NoticedAlone s (raiseNotice n s) :=
  foldl_keeps (fun _ a h => noticedAlone_noticeTo n a h) _ ⟨_, _, _, rfl⟩

/-- Whether station `a` takes notices of the kind of `n`. -/
def wants (n : Notice) (s : State) (a : StationId) : Bool := s.link.stations[a].mask.getLsbD (n.kind - 1)

theorem noticeTo_of_wants {a : StationId} (h : wants n s a = true) :
    noticeTo n s a = placeNoticeFrame (noticeFrame a n) (s.onStation a (enterNotice n)) := if_pos h

theorem noticeTo_of_not_wants {a : StationId} (h : ¬ wants n s a = true) : noticeTo n s a = s := if_neg h

theorem enterNotice_mask (n : Notice) (st : StationLink) : (enterNotice n st).mask = st.mask := by
  unfold enterNotice
  split
  · rfl
  · split <;> rfl

theorem placeNoticeFrame_stations (f : CanFrame) (s : State) :
    (placeNoticeFrame f s).link.stations = s.link.stations := by
  unfold placeNoticeFrame
  split <;> rfl

/-- A notice reaches the set of the station it is handled for, and no other. -/
theorem noticeTo_station (n : Notice) (s : State) (a b : StationId) : (noticeTo n s a).link.stations[b] =
    if b = a ∧ wants n s a = true then enterNotice n s.link.stations[b] else s.link.stations[b] := by
  by_cases hw : wants n s a = true
  · rw [noticeTo_of_wants hw, placeNoticeFrame_stations, State.onStation, stations_get]
    by_cases hb : b = a
    · subst hb
      simp [hw]
    · simp [hb]
  · rw [noticeTo_of_not_wants hw, if_neg fun h => hw h.2]

theorem wants_noticeTo (n : Notice) (s : State) (a b : StationId) : wants n (noticeTo n s a) b = wants n s b := by
  unfold wants
  rw [noticeTo_station]
  split
  · rw [enterNotice_mask]
  · rfl

/-! ## What the stations addressed get, one behind the other -/

theorem foldl_noticeTo_station (n : Notice) (b : StationId) (l : List StationId) (hl : l.Nodup) (s : State) :
    (l.foldl (noticeTo n) s).link.stations[b] =
      if b ∈ l ∧ wants n s b = true then enterNotice n s.link.stations[b] else s.link.stations[b] := by
  induction l generalizing s with
  | nil => simp
  | cons a l ih =>
    obtain ⟨ha, hl⟩ := List.nodup_cons.1 hl
    rw [List.foldl_cons, ih hl, wants_noticeTo, noticeTo_station]
    by_cases hb : b = a
    · subst hb
      simp [ha]
    · simp [hb]

/-- The frames placed are those of the first stations that want the notice, as far as places are free; the others are
counted as skipped (R173). -/
theorem foldl_noticeTo_frames (n : Notice) (l : List StationId) (s : State) :
    let wanted := l.filter (wants n s)
    let placed := wanted.take (16 - s.link.transmitQueue.length)
    (l.foldl (noticeTo n) s).link.transmitQueue = s.link.transmitQueue ++ placed.map (fun a => noticeFrame a n) ∧
    (l.foldl (noticeTo n) s).link.framesSkipped =
      s.link.framesSkipped + BitVec.ofNat 32 (wanted.length - placed.length) := by
  induction l generalizing s with
  | nil => simp
  | cons a l ih =>
    have hwants : wants n (noticeTo n s a) = wants n s := funext (wants_noticeTo n s a)
    obtain ⟨hqueue, hskipped⟩ := ih (noticeTo n s a)
    rw [List.foldl_cons, hqueue, hskipped, hwants]
    by_cases hw : wants n s a = true
    · rw [List.filter_cons_of_pos hw, noticeTo_of_wants hw]
      unfold placeNoticeFrame
      split
      · next hroom =>
        replace hroom : s.link.transmitQueue.length < 16 := hroom
        have hplace : 16 - s.link.transmitQueue.length = 16 - (s.link.transmitQueue.length + 1) + 1 := by omega
        simp [placeFrame, hplace]
      · next hfull =>
        replace hfull : ¬ s.link.transmitQueue.length < 16 := hfull
        have hplace : 16 - s.link.transmitQueue.length = 0 := by omega
        simp [hplace, BitVec.ofNat_add, BitVec.add_assoc, BitVec.add_comm]
    · rw [List.filter_cons_of_neg hw, noticeTo_of_not_wants hw]
      exact ⟨rfl, rfl⟩

/-- The pair is entered unless it is present; at 24 pairs the flag is set (R177). -/
theorem enterNotice_eq (n : Notice) (st : StationLink) : enterNotice n st =
    if st.notices.any (fun m => m.kind == n.kind && m.subject == n.subject) then st
    else if st.notices.length < 24 then { st with notices := st.notices ++ [n] }
    else { st with lost := true } := by
  have hpair : n.samePair = fun m => m.kind == n.kind && m.subject == n.subject := by
    funext m
    rw [Notice.samePair, BEq.comm, BEq.comm (a := n.subject)]
  rw [enterNotice, hpair]

/-! ## The bytes of a frame (section 11.5) -/

/-- A signed number in two bytes ends in its low byte. -/
theorem ofNat_toNat_ofInt_16 (x : Int) : BitVec.ofNat 8 (BitVec.ofInt 16 x).toNat = BitVec.ofInt 8 x := by
  apply BitVec.eq_of_toNat_eq
  simp only [BitVec.toNat_ofNat, BitVec.toNat_ofInt]
  omega

theorem subject_balanceHigh (i f : Fin 6) :
    BitVec.ofNat 8 ((i.val + 1) * 16 + (f.val + 1)) = numberByte i * 16 + numberByte f := by
  rw [BitVec.ofNat_add, BitVec.ofNat_mul]
  rfl

end Sys2Proof.Machine

open Sys2Proof Sys2Proof.Machine

/-- Settles O17: the notice reaches the addressees one behind the other, and its frame is cut to eight bytes. -/
theorem noticesAreEnteredAndSent : Obligations.NoticesAreEnteredAndSent := by
  refine ⟨fun k n m s => ⟨rfl, rfl⟩, fun c ev a b v s => ⟨rfl, ?_, ?_⟩,
    fun c f v x n s => addressees_balanceHigh .., fun o l why n d s => ⟨rfl, rfl, rfl⟩,
    fun n s => ⟨?_, fun a => ?_, ?_⟩, ?_⟩
  · exact fun hc => addressees_channel_of_line hc ev a b s
  · exact fun k hk => addressees_channel_of_probe hk ev a b 0 s
  · obtain ⟨queue, stations, skipped, h⟩ := noticedAlone_raiseNotice n s
    rw [h]
  · rw [← enterNotice_eq]
    exact foldl_noticeTo_station n a _ (nodup_addressees n s) s
  · exact foldl_noticeTo_frames n _ s
  · intro high low lineCode causeCode eventCode verdictCode a k c i f o l why ev v n m x y d e frame
    have hline : ∀ l : LineState, lineCode l = BitVec.ofNat 8 l.code := by rintro (_ | _ | _ | _) <;> rfl
    have hcause : causeCode why = BitVec.ofNat 8 why.code := by cases why <;> rfl
    have hevent : eventCode ev = BitVec.ofNat 8 ev.code := by cases ev <;> rfl
    have hverdict : verdictCode v = BitVec.ofNat 8 v.code := by cases v <;> rfl
    simp only [hline, hcause, hevent, hverdict]
    refine ⟨?_, rfl, rfl, rfl, rfl, rfl, rfl, ?_⟩
    · cases o <;> rfl
    · rw [← ofNat_toNat_ofInt_16, ← subject_balanceHigh]
      rfl
end

section
/-! SUPPORT. The answer of a request: a handler refuses it and does nothing else, or places the response of DONE and
then only frames behind it (R172, R173). -/

namespace Sys2Proof.Machine

open Sys2Proof

variable {s t : State} {l : Link}

/-! ## What is placed behind a response -/

/-- Since the link was `l`, no request was taken or received, and frames were placed at the tail of the transmit queue
alone. -/
def Behind (l : Link) (s : State) : Prop :=
  s.link.receiveQueue = l.receiveQueue ∧ l.transmitQueue <+: s.link.transmitQueue

theorem Behind.refl (s : State) : Behind s.link s := ⟨rfl, [], List.append_nil _⟩

/-- A change that leaves the two queues. -/
theorem Behind.of_queues (h : Behind l s) (hq : t.link.receiveQueue = s.link.receiveQueue)
    (hp : t.link.transmitQueue = s.link.transmitQueue) : Behind l t := by
  unfold Behind
  rwa [hq, hp]

theorem Behind.of_link (h : Behind l s) (ht : t.link = s.link) : Behind l t :=
  h.of_queues (congrArg Link.receiveQueue ht) (congrArg Link.transmitQueue ht)

/-- Notices place their frames at the tail, and nothing else in the end of an event or in the Admission Unit touches the
queues. -/
theorem behind_beltClosed (l : Link) : BeltClosed (Behind l) where
  notice := by
    rintro s l' hstep ⟨hq, hp⟩
    cases hstep with
    | books _ hq' hp' => exact ⟨hq'.trans hq, hp'.symm ▸ hp⟩
    | enter a n => exact ⟨hq, hp⟩
    | place f _ => exact ⟨hq, hp.trans ⟨[f], rfl⟩⟩
  line _ h := h
  ident _ h := h
  cut := by
    intro s k h
    unfold cutPulse
    split
    · exact h
    · exact h.of_link (presentQuietly_diversion k _).link
  admission _ h := h
  append _ _ _ h := h
  evaluate tag h := h.of_link (evaluateRecord_diversion _ tag).link
  retire := by
    intro s r rest _ h
    unfold retireHead
    extract_lets s1
    split
    · exact h.of_link ((withdraw_diversion _ r.tag s1).trans (present_diversion _ _)).link
    · exact h
  balance _ _ h := h

namespace Behind

variable (h : Behind l s)
include h

theorem raiseNotice (n : Notice) : Behind l (raiseNotice n s) := (behind_beltClosed l).raiseNotice n h

theorem driveOutputs : Behind l (driveOutputs s) := (behind_beltClosed l).driveOutputs h

theorem settleLine : Behind l (settleLine s) := (behind_beltClosed l).settleLine h

theorem moveLine (new : LineState) (cause : LineCause) : Behind l (moveLine new cause s) :=
  (behind_beltClosed l).moveLine new cause h

theorem examine : Behind l (examine s) := h.of_link (examine_diversion s).link

theorem reportLoss (k : OutletId) (before : Bool) : Behind l (reportLoss present k before s) :=
  h.of_link (reportLoss_diversion present_diversion k before s).link

theorem placeFrame (f : CanFrame) : Behind l (placeFrame f s) := ⟨h.1, h.2.trans ⟨[f], rfl⟩⟩

theorem onOutlet (k : OutletId) (f : Outlet → Outlet) : Behind l (s.onOutlet k f) := h

theorem onAir (f : Air → Air) : Behind l (s.onAir f) := h

theorem onChannel (c : ChannelId) (f : Channel → Channel) : Behind l (s.onChannel c f) := h

theorem onBalance (c : Fin 6) (f : Balance → Balance) : Behind l (s.onBalance c f) := h

theorem onDraws (f : Nat → Nat) : Behind l (s.onDraws f) := h

theorem onRoutes (f : Vector RouteRow 7 → Vector RouteRow 7) : Behind l (s.onRoutes f) := h

theorem discardItems : Behind l (discardItems s) := h

theorem noticeChannel (c : ChannelId) (event : ChannelEvent) : Behind l (noticeChannel c event s) := h.raiseNotice _

theorem enterFull (k : OutletId) (before : Bool) : Behind l (enterFull k before s) :=
  ((h.onOutlet k _).raiseNotice _).reportLoss k before

theorem enterJam (k : OutletId) (before : Bool) : Behind l (enterJam k before s) :=
  ((h.onOutlet k _).raiseNotice _).reportLoss k before

theorem freshCrate (k : OutletId) : Behind l (freshCrate k s) := by
  unfold Machine.freshCrate openOrJam
  split
  · exact (h.onOutlet k _).enterJam k _
  · exact h

theorem enterByMode (k : OutletId) : Behind l (enterByMode k s) := by
  unfold Machine.enterByMode enterByCrate
  split
  · split
    · split
      · exact h.enterFull k false
      · exact h
    · exact h
  · exact h

theorem enterPlaced (k : OutletId) (before : OutletState) (modeBefore : OutletMode) :
    Behind l (enterPlaced k before modeBefore s) := by
  cases before with
  | jammed => exact h
  | unconfigured => exact h.enterByMode k
  | opened | full | swap | held =>
    unfold Machine.enterPlaced
    dsimp only
    split
    · exact h
    · exact (h.onOutlet k _).enterByMode k

theorem placeOutlet (k : OutletId) (p : Placement) : Behind l (placeOutlet k p s) := by
  unfold Machine.placeOutlet
  dsimp only
  refine enterPlaced ?_ k _ _
  split <;> exact h

theorem handRelease (c : ChannelId) : Behind l (handRelease c s) := by
  have hcopy : Behind l (copyDetected c false s) := by
    unfold copyDetected
    split
    · exact h
    · split <;> exact h
  unfold Machine.handRelease
  dsimp only
  split
  · exact (hcopy.onAir _).examine
  · exact hcopy

theorem changeAccount (c f : Fin 6) (change : Accumulator → Accumulator) : Behind l (changeAccount c f change s) :=
  (behind_beltClosed l).changeAccount c f change h

end Behind

/-! ## What a handler does with a request -/

/-- What a handler makes of a request in a state: the refusal alone, or the response of DONE with what is placed behind
it. -/
inductive Answered (q : Request) (s : State) : State → Prop
  | refused (status : Status) : status ≠ .done → Answered q s (respond q status [] s)
  | carriedOut (results : List Byte) {t : State} : Behind (respond q .done results s).link t → Answered q s t

/-- A handler that answers every request so. -/
def Answers (handle : Request → State → State) : Prop := ∀ q s, Answered q s (handle q s)

namespace Answers

theorem answerRead (f : Request → State → Option (List Byte)) : Answers (answerRead f) := fun q s => by
  unfold Machine.answerRead
  split
  · exact .carriedOut _ (.refl _)
  · exact .refused _ nofun

/-! ### Requests to the line, the Air Arbiter and the geometry -/

theorem handleStart : Answers handleStart := fun q s => by
  unfold Machine.handleStart
  split
  · exact .carriedOut [] ((Behind.refl _).moveLine _ _).driveOutputs
  · exact .refused _ nofun

theorem handleDrain : Answers handleDrain := fun q s => by
  unfold Machine.handleDrain
  split
  · exact .carriedOut [] ((Behind.refl _).moveLine _ _).settleLine
  · exact .refused _ nofun

theorem handleStop : Answers handleStop := fun q s => by
  unfold Machine.handleStop
  split
  · exact .refused _ nofun
  · have hmoved := (Behind.refl (respond q .done [] s)).moveLine .standby .stop
    exact .carriedOut [] ((behind_beltClosed _).cutPulses hmoved.discardItems).driveOutputs

theorem handleResume : Answers handleResume := fun q s => by
  unfold Machine.handleResume
  split
  · next r _ =>
    split
    · have hmoved := (Behind.refl (respond q .done [] s)).moveLine r.lineState .resume
      refine .carriedOut [] (Behind.settleLine ?_)
      unfold inEitherOrder inOrder
      split
      · exact (behind_beltClosed _).examineHead (hmoved.onDraws _).examine
      · exact ((behind_beltClosed _).examineHead (hmoved.onDraws _)).examine
    · exact .refused _ nofun
  all_goals exact .refused _ nofun

theorem handleSetGeometry : Answers handleSetGeometry := fun q s => by
  unfold Machine.handleSetGeometry
  split
  · dsimp only
    split
    · exact .carriedOut [] (Behind.refl _).driveOutputs
    · exact .refused _ nofun
  · exact .refused _ nofun

theorem handleSetSpeedCodes : Answers handleSetSpeedCodes := fun q s => by
  unfold Machine.handleSetSpeedCodes
  dsimp only
  split
  · exact .carriedOut [] (Behind.refl _).driveOutputs
  · exact .refused _ nofun

theorem handleSetAir : Answers handleSetAir := fun q s => by
  unfold Machine.handleSetAir
  dsimp only
  split
  · exact .refused _ nofun
  · split
    · split
      · exact .carriedOut [] (Behind.refl _).examine.settleLine
      · exact .carriedOut [] (.refl _)
    · exact .refused _ nofun

/-! ### Requests to an outlet -/

theorem withOutlet {f : Request → OutletId → State → State} (hf : ∀ q k s, Answered q s (f q k s)) :
    Answers fun q s => withOutlet q (f q) s := fun q s => by
  show Answered q s (Machine.withOutlet q (f q) s)
  unfold Machine.withOutlet
  split
  · exact .refused _ nofun
  · split
    · exact hf q _ s
    · exact .refused _ nofun

theorem handleMask : Answers handleMask := withOutlet fun _ k _ =>
  .carriedOut [] (((Behind.refl _).onOutlet k _).reportLoss k _).driveOutputs

theorem handleUnmask : Answers handleUnmask := withOutlet fun _ k _ => .carriedOut [] ((Behind.refl _).onOutlet k _)

theorem handleSetCrate : Answers handleSetCrate := withOutlet fun q k s => by
  dsimp only
  split
  · exact .refused _ nofun
  · split
    · exact .carriedOut [] ((Behind.refl _).onOutlet k _)
    · exact .refused _ nofun

theorem handleReloadCrate : Answers handleReloadCrate := withOutlet fun q k s => by
  dsimp only
  split
  · exact .carriedOut [] ((Behind.refl _).freshCrate k)
  · exact .refused _ nofun

theorem handleClearJam : Answers handleClearJam := withOutlet fun q k s => by
  split
  · exact .carriedOut [] (((Behind.refl _).onOutlet k _).enterByMode k)
  · exact .refused _ nofun

theorem handleSetPlaceTiming : Answers handleSetPlaceTiming := fun q s => by
  unfold Machine.handleSetPlaceTiming
  split
  · exact .refused _ nofun
  · exact .carriedOut [] ((Behind.refl _).of_queues rfl rfl)

theorem handleSetOutletPlace : Answers handleSetOutletPlace := fun q s => by
  unfold Machine.handleSetOutletPlace
  split
  · exact .refused _ nofun
  · next k _ =>
    split
    · exact .refused _ nofun
    · split
      · exact .refused _ nofun
      · split
        · exact .refused _ nofun
        · next p _ => exact .carriedOut [] ((Behind.refl _).placeOutlet k p)

/-! ### Routes, channels and balances -/

theorem handleSetRoute : Answers handleSetRoute := fun q s => by
  unfold Machine.handleSetRoute
  split
  · split
    · split
      · split
        · exact .refused _ nofun
        · split
          · exact .carriedOut _ ((Behind.refl _).onRoutes _)
          · exact .refused _ nofun
      · exact .refused _ nofun
    · exact .refused _ nofun
  · exact .refused _ nofun

theorem withChannel {f : Request → ChannelId → State → State} (hf : ∀ q c s, Answered q s (f q c s)) :
    Answers fun q s => withChannel q (f q) s := fun q s => by
  show Answered q s (Machine.withChannel q (f q) s)
  unfold Machine.withChannel
  split
  · exact .refused _ nofun
  · split
    · exact hf q _ s
    · exact .refused _ nofun

theorem handleSetChannel : Answers handleSetChannel := withChannel fun q c s => by
  split
  · split
    · split
      · exact .carriedOut [] ((Behind.refl _).onChannel c _)
      · exact .refused _ nofun
    · exact .refused _ nofun
  · exact .refused _ nofun

theorem handleEnableChannel : Answers handleEnableChannel := withChannel fun q c s => by
  split
  · exact .carriedOut [] ((Behind.refl _).onChannel c _)
  · exact .refused _ nofun

theorem handleChannelOff : Answers handleChannelOff := withChannel fun q c s => by
  dsimp only
  split
  · exact .carriedOut [] ((((Behind.refl _).onChannel c _).handRelease c).noticeChannel c _).driveOutputs
  · exact .carriedOut [] ((Behind.refl _).onChannel c _)

theorem withAccount {allowed : Fin 6 → StationId → Bool} {f : Request → Fin 6 → Fin 6 → State → State}
    (hf : ∀ q c i s, Answered q s (f q c i s)) : Answers fun q s => withAccount q allowed (f q) s := fun q s => by
  show Answered q s (Machine.withAccount q allowed (f q) s)
  unfold Machine.withAccount
  split
  · split
    · exact hf q _ _ s
    · exact .refused _ nofun
  · exact .refused _ nofun

theorem respond_link (q : Request) (status : Status) (results : List Byte) (hl : t.link = s.link) :
    (respond q status results t).link = (respond q status results s).link :=
  congrArg (fun l : Link => { l with transmitQueue := l.transmitQueue ++ [responseFrame q status results] }) hl

/-- A change of an accumulator, with the threshold it is evaluated against written before or not. -/
theorem takeChange (q : Request) (c f : Fin 6) (change : Accumulator → Accumulator) (hl : t.link = s.link) :
    Answered q s (takeChange q c f change t) :=
  .carriedOut _ (((Behind.refl _).of_link (respond_link q .done _ hl)).changeAccount c f change)

theorem handleIssue : Answers handleIssue := withAccount fun q c f s => by
  dsimp only
  split
  · exact takeChange q c f _ rfl
  · exact .refused _ nofun

theorem handleAdjust : Answers handleAdjust := withAccount fun q c f s => by
  dsimp only
  split
  · exact takeChange q c f _ rfl
  · exact .refused _ nofun

theorem handleSetValue : Answers handleSetValue := withAccount fun q c f _ => takeChange q c f _ rfl

theorem handleSetThreshold : Answers handleSetThreshold := withAccount fun q c f s => by
  dsimp only
  split
  · exact takeChange q c f id rfl
  · exact .refused _ nofun

theorem handleClearFlags : Answers handleClearFlags := withAccount fun _ c _ _ =>
  .carriedOut _ ((Behind.refl _).onBalance c _)

theorem handleSetBalanceMode : Answers handleSetBalanceMode := fun q s => by
  unfold Machine.handleSetBalanceMode
  split
  · exact .refused _ nofun
  · split
    · split
      · exact .refused _ nofun
      · exact .carriedOut _ ((Behind.refl _).onBalance _ _)
    · exact .refused _ nofun

/-! ### Masks and polls -/

theorem handleSetNoticeMask : Answers handleSetNoticeMask := fun _ _ =>
  .carriedOut _ ((Behind.refl _).of_queues rfl rfl)

theorem handlePollNotices : Answers handlePollNotices := fun q s => by
  unfold Machine.handlePollNotices
  extract_lets st removed left s1 s2 s3
  have hframes : Behind s2.link s3 := foldl_keeps (fun _ _ h => h.placeFrame _) _ (.refl s2)
  have hcarried : Behind s2.link (if q.station = 0 then s3.onLink fun l => { l with overflowArm := true } else s3) := by
    split <;> exact hframes
  exact .carriedOut _ hcarried

end Answers

/-- Every request command but INITIALIZE answers so. -/
theorem answers_handlerOf {c : Instr} {row : RequestRow} (h : requestRow c = some row) (hc : c ≠ .initializeLine) :
    Answers (handlerOf c) := by
  cases c with
  | start => exact .handleStart
  | drain => exact .handleDrain
  | stop => exact .handleStop
  | resume => exact .handleResume
  | initializeLine => exact absurd rfl hc
  | setGeometry => exact .handleSetGeometry
  | setSpeedCodes => exact .handleSetSpeedCodes
  | setAir => exact .handleSetAir
  | setPlaceTiming => exact .handleSetPlaceTiming
  | setOutletPlace => exact .handleSetOutletPlace
  | mask => exact .handleMask
  | unmask => exact .handleUnmask
  | setCrate => exact .handleSetCrate
  | reloadCrate => exact .handleReloadCrate
  | clearJam => exact .handleClearJam
  | setRoute => exact .handleSetRoute
  | setChannel => exact .handleSetChannel
  | enableChannel => exact .handleEnableChannel
  | channelOff => exact .handleChannelOff
  | issue => exact .handleIssue
  | adjust => exact .handleAdjust
  | setValue => exact .handleSetValue
  | setBalanceMode => exact .handleSetBalanceMode
  | setThreshold => exact .handleSetThreshold
  | clearFlags => exact .handleClearFlags
  | readLine | readOutlet | readConfirmQueue | readTrackEntry | readPending | readRoute | readChannel | readBalance
  | readCounts => exact .answerRead _
  | setNoticeMask => exact .handleSetNoticeMask
  | pollNotices => exact .handlePollNotices
  | _ => cases h

end Sys2Proof.Machine

open Sys2Proof Sys2Proof.Machine

/-- Settles O15: the link's checks refuse with the answer alone, and so does a handler that does not carry the request
out. -/
theorem refusedRequestChangesNothing : Obligations.RefusedRequestChangesNothing := by
  intro c row s a tag args rest hrow hc hq hplaces
  rw [exec_request hrow, taking_of_queue hq row.places row.length row.linkOnly _ hplaces]
  split
  · exact ⟨_, .badLength, noResults, rfl, rfl, fun _ => ⟨rfl, rfl⟩, nofun⟩
  · split
    · exact ⟨_, .notYours, noResults, rfl, rfl, fun _ => ⟨rfl, rfl⟩, nofun⟩
    · generalize ht : handlerOf c _ _ = t
      have hanswered := ht ▸ answers_handlerOf hrow hc _ _
      cases hanswered with
      | refused status hs =>
        exact ⟨_, status, noResults, rfl, rfl, fun _ => ⟨rfl, respond_unanswered ..⟩, fun h => absurd h hs⟩
      | carriedOut results hbehind =>
        rw [respond_unanswered] at hbehind
        exact ⟨t, .done, padTo 5 results, rfl, by simp [padTo], fun h => absurd rfl h, fun _ => hbehind⟩
end

section
/-! SUPPORT. The two cases of a step: the queue of commands is empty, or it has a front. -/

namespace Sys2Proof.Machine

open Sys2Proof

/-- On an empty queue nothing changes (log 1). -/
theorem step_of_pending_nil {s : State} (h : s.pending = []) : step s = .next s := by
  unfold step
  rw [h]

/-- The command at the front leaves the queue before it runs, so a command never sees itself pending. -/
theorem step_of_pending_cons {c : Instr} {rest : List Instr} {s : State} (h : s.pending = c :: rest) :
    step s = exec c { s with pending := rest } := by
  unfold step
  rw [h]

end Sys2Proof.Machine

open Sys2Proof Sys2Proof.Machine

/-- Settles O1: a queue is either empty or has a front, and `step` has an equation for each. -/
theorem stepRunsFrontCommand : Obligations.StepRunsFrontCommand :=
  ⟨fun _ _ _ => step_of_pending_cons rfl, fun _ => step_of_pending_nil⟩
end

section
/-! SUPPORT. A cut, outlet by outlet: what it leaves of the Air Arbiter, of each outlet's confirm queue and of each
outlet's request (R50, R89, R98). -/

namespace Sys2Proof.Machine

open Sys2Proof

variable {s t u : State} {j k : OutletId} {ks : List OutletId}

theorem energised_eq_false_iff (k : OutletId) (s : State) : energised k s = false ↔ s.air.pulses[k] = none :=
  Option.isSome_eq_false_iff.trans Option.isNone_iff_eq_none

/-- An outlet whose diverter is off comes to present its oldest REQUESTING record (R50). -/
theorem presentQuietly_of_off (h : energised k s = false) :
    presentQuietly k s = setRequest k ((oldestRequesting k s).map (·.tag)) s := by
  unfold presentQuietly reconsider
  cases ho : oldestRequesting k s with
  | none => simp [h]
  | some r =>
    by_cases hr : s.air.requests[k] = some r.tag
    · simp only [h, Bool.false_eq_true, if_false, if_pos hr, Option.map_some]
      exact (setRequest_self hr).symm
    · simp only [h, Bool.false_eq_true, if_false, if_neg hr, Option.map_some]

/-- An outlet whose PULSING entry of a tag has become AWAITING, its deadline the confirm window from `now` (R98). -/
def Outlet.awaiting (now : Nat) (tag : SequenceTag) (o : Outlet) : Outlet :=
  { o with
    queue := o.queue.map fun e =>
      if e.tag = tag ∧ e.phase = .pulsing then { e with phase := .awaiting (now + o.confirmWindow) } else e }

theorem awaitConfirm_eq (k : OutletId) (tag : SequenceTag) (s : State) :
    awaitConfirm k tag s = s.onOutlet k (Outlet.awaiting s.now tag) := rfl

/-- The cut of the outlets `ks` has taken `s` to `t`. -/
structure CutOf (ks : List OutletId) (s t : State) : Prop where
  frame : t = { s with air := { s.air.cut ks with requests := t.air.requests }, outlets := t.outlets }
  off : ∀ k : OutletId, k ∉ ks ∨ s.air.pulses[k] = none →
    t.outlets[k] = s.outlets[k] ∧ t.air.requests[k] = s.air.requests[k]
  cut : ∀ k ∈ ks, ∀ p, s.air.pulses[k] = some p → t.outlets[k] = s.outlets[k].awaiting s.now p.tag ∧
    t.air.requests[k] = (oldestRequesting k s).map (·.tag)

/-- The cut of an outlet whose diverter is off does nothing. -/
theorem CutOf.refl (h : ∀ k ∈ ks, s.air.pulses[k] = none) : CutOf ks s s where
  frame := by rw [Air.cut_of_off s.air h]
  off _ _ := ⟨rfl, rfl⟩
  cut k hk p hp := by rw [h k hk] at hp; cases hp

theorem cutPulse_of_energised {p : Pulse} (hp : s.air.pulses[k] = some p) :
    cutPulse s k =
      { s with
        air := { s.air.cut [k] with requests := s.air.requests.set k ((oldestRequesting k s).map (·.tag)) }
        outlets := s.outlets.set k (s.outlets[k].awaiting s.now p.tag) } := by
  have hoff : energised k (awaitConfirm k p.tag
      ((deEnergise k s).onAir fun a => { a with pulsesCut := a.pulsesCut + 1 })) = false := by
    rw [energised_eq_false_iff]
    simp [awaitConfirm, deEnergise]
  simp only [cutPulse, hp]
  rw [presentQuietly_of_off hoff, Air.cut_of_energised s.air hp]
  rfl

theorem cutPulse_cutOf (s : State) (k : OutletId) : CutOf [k] s (cutPulse s k) := by
  cases hp : s.air.pulses[k] with
  | none =>
    have hsame : cutPulse s k = s := by simp only [cutPulse, hp]
    rw [hsame]
    exact .refl (by simpa using hp)
  | some p =>
    rw [cutPulse_of_energised hp]
    refine ⟨rfl, fun j hj => ?_, fun j hj p' hp' => ?_⟩
    · have hne : k.val ≠ j.val := fun e => by
        cases Fin.ext e
        rcases hj with hj | hj
        · simp at hj
        · rw [hp] at hj; cases hj
      simp [hne]
    · cases List.mem_singleton.1 hj
      cases hp.symm.trans hp'
      simp

/-- Cuts of different outlets follow one another. -/
theorem CutOf.cons (hk : k ∉ ks) (h : CutOf [k] s t) (g : CutOf ks t u) : CutOf (k :: ks) s u := by
  have hnow : t.now = s.now := by rw [h.frame]
  have hold : ∀ j, oldestRequesting j t = oldestRequesting j s := fun j => by
    unfold oldestRequesting
    rw [h.frame]
  have hpulse : ∀ j : OutletId, t.air.pulses[j] = if j = k then none else s.air.pulses[j] := fun j => by
    rw [h.frame]
    by_cases hj : j = k <;> simp [Air.cut, hj]
  have hair : { t.air.cut ks with requests := u.air.requests } =
      { s.air.cut (k :: ks) with requests := u.air.requests } := by
    rw [← Air.cut_cons s.air hk, h.frame]
    rfl
  refine ⟨?_, fun j hj => ?_, fun j hj p hp => ?_⟩
  · rw [← hair]
    conv_lhs => rw [g.frame, h.frame]
    rw [h.frame]
  · have h1 := h.off j (by by_cases hjk : j = k <;> simp_all)
    have h2 := g.off j (by rw [hpulse]; by_cases hjk : j = k <;> simp_all)
    exact ⟨h2.1.trans h1.1, h2.2.trans h1.2⟩
  · by_cases hjk : j = k
    · subst hjk
      have h1 := h.cut j (by simp) p hp
      have h2 := g.off j (.inl hk)
      exact ⟨h2.1.trans h1.1, h2.2.trans h1.2⟩
    · have hjks : j ∈ ks := (List.mem_cons.1 hj).resolve_left hjk
      have h1 := h.off j (.inl (by simpa using hjk))
      have h2 := g.cut j hjks p (by rw [hpulse, if_neg hjk, hp])
      rw [h1.1, hnow, hold] at h2
      exact h2

theorem foldl_cutPulse_cutOf (ks : List OutletId) (hks : ks.Nodup) (s : State) : CutOf ks s (ks.foldl cutPulse s) := by
  induction ks generalizing s with
  | nil => exact .refl (by simp)
  | cons k ks ih =>
    obtain ⟨hk, hks⟩ := List.nodup_cons.mp hks
    exact .cons hk (cutPulse_cutOf s k) (ih hks (cutPulse s k))

theorem cutPulses_cutOf (s : State) : CutOf allOutlets s (cutPulses s) :=
  foldl_cutPulse_cutOf allOutlets (by decide) s

theorem mem_allOutlets (k : OutletId) : k ∈ allOutlets := by revert k; decide

/-- A cut changes the Air Arbiter and the confirm queues alone. -/
theorem cutPulses_frame (s : State) : cutPulses s =
    { s with
      air :=
        { s.air with
          pulses := Vector.replicate 12 none
          pulsesCut := s.air.pulsesCut + BitVec.ofNat 32 (energisedCount s)
          requests := (cutPulses s).air.requests }
      outlets := (cutPulses s).outlets } := by
  conv_lhs => rw [(cutPulses_cutOf s).frame, Air.cut_all]

end Sys2Proof.Machine

open Sys2Proof Sys2Proof.Machine

/-- Settles O18: the cuts of the outlets one behind the other, each of which leaves what the others read. -/
theorem cutDeEnergisesEveryDiverter : Obligations.CutDeEnergisesEveryDiverter := fun s =>
  ⟨cutPulses_frame s, fun k =>
    ⟨fun hp => (cutPulses_cutOf s).off k (.inr hp), fun p hp => (cutPulses_cutOf s).cut k (mem_allOutlets k) p hp⟩⟩
end

section
/-! SUPPORT. The end of a pulse, and the two edges of the e-stop line (R85, R89, R98, R162, R168). -/

namespace Sys2Proof.Machine

open Sys2Proof

variable {s : State} {k : OutletId} {p : Pulse}

/-! ## The end of a pulse -/

theorem exec_pulseEnd_due (hp : s.air.pulses[k] = some p) (hd : p.pulseEnd ≤ s.now) :
    exec (.pulseEnd k) s = .next (settleLine (endPulse k p.tag s)) := by
  simp only [exec, execPulseEnd, hp, if_pos hd]

theorem exec_pulseEnd_early (hp : s.air.pulses[k] = some p) (hd : s.now < p.pulseEnd) :
    exec (.pulseEnd k) s = .next s := by
  simp only [exec, execPulseEnd, hp, if_neg (not_le.2 hd)]

theorem exec_pulseEnd_off (hp : s.air.pulses[k] = none) : exec (.pulseEnd k) s = .next s := by
  simp only [exec, execPulseEnd, hp]

/-- Under air wait an examination grants nothing (R80, R87). -/
theorem examine_of_airWait (h : s.air.airWait = true) : examine s = s :=
  examine_of_not_allowed (by simp [grantAllowed, h])

/-- Under air wait an outlet whose diverter is off presents its oldest REQUESTING record, and no more. -/
theorem present_examine_of_airWait (hw : s.air.airWait = true) (hk : energised k s = false) :
    present k (examine s) = setRequest k ((oldestRequesting k s).map (·.tag)) s := by
  rw [examine_of_airWait hw, present_of_airWait hw, presentQuietly_of_off hk]

theorem energised_awaitConfirm_deEnergise (k : OutletId) (tag : SequenceTag) (s : State) :
    energised k (awaitConfirm k tag (deEnergise k s)) = false := by
  rw [energised_eq_false_iff]
  simp [awaitConfirm, deEnergise]

/-! ## The e-stop line -/

theorem haltLine_of_haltOf {h : LineState} (cause : LineCause) (hh : haltOf s.line.state = some h) :
    haltLine cause s = raiseNotice (.line (some s.line.state) h cause) (s.onLine fun l => { l with state := h }) := by
  obtain ⟨hm, hs⟩ := haltOf_some hh
  simp only [haltLine, hm, if_true, moveLine, hs]

theorem haltLine_of_still (cause : LineCause) (hh : haltOf s.line.state = none) : haltLine cause s = s := by
  simp only [haltLine, haltOf_none hh, Bool.false_eq_true, if_false]

end Sys2Proof.Machine

open Sys2Proof Sys2Proof.Machine

/-- Settles O37: a pulse that is due ends by `endPulse`, whose examination grants nothing under air wait. -/
theorem pulseEndFreesTheDiverter : Obligations.PulseEndFreesTheDiverter := by
  intro k s
  refine ⟨fun p hp hd => ?_, fun p hp hd => exec_pulseEnd_early hp hd, exec_pulseEnd_off⟩
  intro u
  refine ⟨exec_pulseEnd_due hp hd, (examine_diversion u).trans (present_diversion k _), fun hw => ?_⟩
  exact present_examine_of_airWait (s := u) hw (energised_awaitConfirm_deEnergise k p.tag s)

/-- Settles O38: an assertion halts the line it finds moving and cuts in every state. -/
theorem estopLineHaltsAndCuts : Obligations.EstopLineHaltsAndCuts := by
  intro s
  refine ⟨fun h hh => ?_, fun hh => ?_, rfl⟩
  · simp only [exec, execEstopAssertion]
    rw [haltLine_of_haltOf (h := h) .estop (by exact hh)]
    rfl
  · simp only [exec, execEstopAssertion]
    rw [haltLine_of_still .estop (by exact hh)]
end

section
/-! SUPPORT. What an event leaves of the channels, the air-wait flag and the copies of AIR and RES, and that it keeps the
diverters safe: only a grant energises one, and each move of the line out of RUN and DRAIN ends in a cut (R77, R80, R87,
R89, R91, R168). -/

namespace Sys2Proof.Machine

open Sys2Proof

variable {s t u : State}

/-! ## The diverters -/

theorem energised_iff (k : OutletId) (s : State) : energised k s = true ↔ s.air.pulses[k] ≠ none :=
  Option.isSome_iff_ne_none

/-- The diverters stay safe where no pulse changes, and the line neither leaves RUN and DRAIN nor has its e-stop
asserted. -/
theorem DivertersSafe.congr (h : DivertersSafe s) (hn : t.air.slots = s.air.slots)
    (hp : t.air.pulses = s.air.pulses)
    (hl : s.line.state = .run ∨ s.line.state = .drain → t.line.state = .run ∨ t.line.state = .drain)
    (he : s.line.estop = false → t.line.estop = false) : DivertersSafe t := by
  obtain ⟨hslots, hcount, hsafe⟩ := h
  refine ⟨by rwa [hn], by rwa [energisedCount, hp], fun k hk => ?_⟩
  rw [energised, hp] at hk
  exact (hsafe k hk).imp hl he

/-- With every diverter off the diverters are safe in every state of the line. -/
theorem divertersSafe_of_off (hn : s.air.slots = 1 ∨ s.air.slots = 2) (hp : ∀ k : OutletId, s.air.pulses[k] = none) :
    DivertersSafe s := by
  refine ⟨hn, ?_, fun k hk => absurd (hp k) ((energised_iff k s).1 hk)⟩
  have hnone : s.air.pulses.toList.filter Option.isSome = [] := by
    rw [List.filter_eq_nil_iff]
    intro x hx
    obtain ⟨i, hi, rfl⟩ := Vector.mem_iff_getElem.1 (Vector.mem_toList_iff.1 hx)
    have hoff := hp ⟨i, hi⟩
    simp only [Fin.getElem_fin] at hoff
    simp [hoff]
  rw [energisedCount, hnone]
  exact Nat.zero_le 2

/-- One more pulse raises the energised count by at most 1. -/
theorem energisedCount_le_of_set {k : OutletId} {p : Pulse} (hp : t.air.pulses = s.air.pulses.set k (some p)) :
    energisedCount t ≤ energisedCount s + 1 := by
  have hk : k.val < s.air.pulses.toList.length := by simp
  simp only [energisedCount, hp, ← List.countP_eq_length_filter, Vector.toList_set, List.countP_set hk]
  simp only [Option.isSome_some, if_true]
  omega

/-- The conditions of a grant (R80). -/
theorem grantAllowed_iff (s : State) : grantAllowed s = true ↔
    energisedCount s < s.air.slots ∧ (∃ k : OutletId, s.air.requests[k] ≠ none) ∧ s.air.airWait = false ∧
      (s.line.state = .run ∨ s.line.state = .drain) ∧ s.line.estop = false := by
  simp only [grantAllowed, Bool.and_eq_true, decide_eq_true_eq, Bool.not_eq_true', moving_iff, requestCount_pos_iff,
    and_assoc]

/-- A grant energises the diverter of its outlet or, with no record behind the request, none (R83). -/
theorem grant_pulses (k : OutletId) (s : State) : (grant k s).air.pulses = s.air.pulses ∨
    ∃ p, (grant k s).air.pulses = s.air.pulses.set k (some p) := by
  unfold grant
  split
  · exact .inl rfl
  · split
    · exact .inl rfl
    · next tag _ _ r _ =>
      let t := s.timing[k]
      let p := pulseOf (halfFootprint r.footprint) s.sensing.speed t.extension t.minPulse t.maxPulse
      exact .inr ⟨{ tag := tag, pulseEnd := s.now + p.duration }, (OnlyBids.reportLoss k _ _).pulses⟩

/-- A grant whose conditions hold keeps the diverters safe. -/
theorem grant_safe (ha : grantAllowed s = true) (k : OutletId) (h : DivertersSafe s) : DivertersSafe (grant k s) := by
  have hd := grant_diversion k s
  have hslots : (grant k s).air.slots = s.air.slots := by rw [hd.air]
  obtain ⟨hfree, -, -, hmoving, hestop⟩ := (grantAllowed_iff s).1 ha
  rcases grant_pulses k s with hp | ⟨p, hp⟩
  · exact h.congr hslots hp (by rw [hd.line]; exact id) (by rw [hd.line]; exact id)
  · obtain ⟨hn, -, -⟩ := h
    have hcount := energisedCount_le_of_set hp
    refine ⟨by rwa [hslots], by omega, fun j _ => ?_⟩
    rw [hd.line]
    exact ⟨hmoving, hestop⟩

/-! ## The kinds of changes -/

/-- A change that leaves every channel, the air-wait flag and the copies of AIR and RES. -/
structure Unwatched (s t : State) : Prop where
  channels : t.channels = s.channels
  airWait : t.air.airWait = s.air.airWait
  airCopy : t.line.airCopy = s.line.airCopy
  resCopy : t.line.resCopy = s.line.resCopy

theorem Unwatched.trans (h : Unwatched s t) (g : Unwatched t u) : Unwatched s u :=
  ⟨g.channels.trans h.channels, g.airWait.trans h.airWait, g.airCopy.trans h.airCopy, g.resCopy.trans h.resCopy⟩

theorem Unwatched.of_blocks (hc : t.channels = s.channels) (ha : t.air = s.air) (hl : t.line = s.line) :
    Unwatched s t := ⟨hc, by rw [ha], by rw [hl], by rw [hl]⟩

theorem Unwatched.raiseNotice (n : Notice) (s : State) : Unwatched s (raiseNotice n s) := by
  obtain ⟨l, -, h⟩ := raiseNotice_onLink n s
  rw [h]
  exact of_blocks rfl rfl rfl

theorem raiseNotice_air (n : Notice) (s : State) : (raiseNotice n s).air = s.air := by
  obtain ⟨l, -, h⟩ := raiseNotice_onLink n s
  rw [h]

theorem moveLine_air (new : LineState) (cause : LineCause) (s : State) : (moveLine new cause s).air = s.air :=
  raiseNotice_air _ _

theorem haltLine_air (cause : LineCause) (s : State) : (haltLine cause s).air = s.air := by
  unfold haltLine
  split
  · exact moveLine_air _ _ s
  · rfl

theorem Unwatched.moveLine (new : LineState) (cause : LineCause) (s : State) : Unwatched s (moveLine new cause s) :=
  trans (t := s.onLine fun l => { l with state := new }) ⟨rfl, rfl, rfl, rfl⟩ (raiseNotice _ _)

theorem Unwatched.haltLine (cause : LineCause) (s : State) : Unwatched s (haltLine cause s) := by
  unfold Machine.haltLine
  split
  · exact moveLine _ _ s
  · exact of_blocks rfl rfl rfl

theorem cutPulses_unwatched (s : State) : Unwatched s (cutPulses s) := by
  rw [cutPulses_frame]
  exact ⟨rfl, rfl, rfl, rfl⟩

/-- A cut leaves the diverters safe in every state of the line (R89). -/
theorem cutPulses_safe (hn : s.air.slots = 1 ∨ s.air.slots = 2) : DivertersSafe (cutPulses s) := by
  rw [cutPulses_frame]
  exact divertersSafe_of_off hn fun k => by simp

/-- Such a change that also keeps the diverters safe. -/
structure Steady (s t : State) : Prop extends Unwatched s t where
  safe : DivertersSafe s → DivertersSafe t

namespace Steady

/-- A change of other blocks than the channels, the Air Arbiter and the line. -/
theorem of_blocks (hc : t.channels = s.channels) (ha : t.air = s.air) (hl : t.line = s.line) : Steady s t :=
  ⟨.of_blocks hc ha hl, fun h => h.congr (by rw [ha]) (by rw [ha]) (by rw [hl]; exact id) (by rw [hl]; exact id)⟩

theorem refl (s : State) : Steady s s := of_blocks rfl rfl rfl

theorem trans (h : Steady s t) (g : Steady t u) : Steady s u :=
  ⟨h.toUnwatched.trans g.toUnwatched, fun hs => g.safe (h.safe hs)⟩

theorem foldl {α : Type} {f : State → α → State} (hf : ∀ s a, Steady s (f s a)) :
    ∀ (l : List α) (s : State), Steady s (l.foldl f s)
  | [], s => refl s
  | a :: l, s => (hf s a).trans (foldl hf l (f s a))

theorem onSensing (f : Sensing → Sensing) (s : State) : Steady s (s.onSensing f) := of_blocks rfl rfl rfl
theorem onAdmission (f : Admission → Admission) (s : State) : Steady s (s.onAdmission f) := of_blocks rfl rfl rfl
theorem onTrack (f : Track → Track) (s : State) : Steady s (s.onTrack f) := of_blocks rfl rfl rfl
theorem onOutlet (k : OutletId) (f : Outlet → Outlet) (s : State) : Steady s (s.onOutlet k f) := of_blocks rfl rfl rfl
theorem onBalance (c : Fin 6) (f : Balance → Balance) (s : State) : Steady s (s.onBalance c f) := of_blocks rfl rfl rfl
theorem onLink (f : Link → Link) (s : State) : Steady s (s.onLink f) := of_blocks rfl rfl rfl

/-- A change of the line that moves it, if at all, to RUN or DRAIN, and does not assert the e-stop. -/
theorem onLine (f : Line → Line)
    (hl : (f s.line).state = s.line.state ∨ (f s.line).state = .run ∨ (f s.line).state = .drain)
    (he : (f s.line).estop = s.line.estop ∨ (f s.line).estop = false)
    (ha : (f s.line).airCopy = s.line.airCopy) (hr : (f s.line).resCopy = s.line.resCopy) : Steady s (s.onLine f) := by
  refine ⟨⟨rfl, rfl, ha, hr⟩, fun h => h.congr rfl rfl (fun hm => ?_) fun hf => ?_⟩
  · rcases hl with hl | hl
    · rwa [State.onLine_line, hl]
    · exact hl
  · rcases he with he | he
    · rwa [State.onLine_line, he]
    · exact he

theorem raiseNotice (n : Notice) (s : State) : Steady s (raiseNotice n s) := by
  obtain ⟨l, -, h⟩ := raiseNotice_onLink n s
  rw [h]
  exact of_blocks rfl rfl rfl

theorem respond (q : Request) (status : Status) (results : List Byte) (s : State) :
    Steady s (respond q status results s) := of_blocks rfl rfl rfl

theorem driveOutputs (s : State) : Steady s (driveOutputs s) :=
  ⟨⟨rfl, rfl, rfl, rfl⟩, fun h => h.congr rfl rfl id id⟩

/-- A move of the line to RUN or DRAIN. -/
theorem moveLine {new : LineState} (cause : LineCause) (hn : new = .run ∨ new = .drain) (s : State) :
    Steady s (moveLine new cause s) :=
  (onLine (fun l => { l with state := new }) (.inr hn) (.inl rfl) rfl rfl).trans (raiseNotice _ _)

/-! ### Diversions -/

/-- A diversion leaves what the channels reach. -/
theorem of_diversion (d : DiversionFrame s t) (h : DivertersSafe s → DivertersSafe t) : Steady s t :=
  ⟨⟨d.channels, by rw [d.air], by rw [d.line], by rw [d.line]⟩, h⟩

/-- A diversion without a grant. -/
theorem of_pulses (d : DiversionFrame s t) (hp : t.air.pulses = s.air.pulses) : Steady s t :=
  of_diversion d fun h => h.congr (by rw [d.air]) hp (by rw [d.line]; exact id) (by rw [d.line]; exact id)

theorem of_onlyBids (h : OnlyBids s t) : Steady s t := of_pulses h.diversion h.pulses

theorem presentQuietly (k : OutletId) (s : State) : Steady s (presentQuietly k s) := of_onlyBids (.presentQuietly k s)

theorem grantOne (s : State) : Steady s (grantOne s) := by
  refine of_diversion (grantOne_diversion s) fun h => ?_
  unfold Machine.grantOne
  split
  · next ha =>
    split
    · exact h
    · exact grant_safe ha _ h
  · exact h

theorem examine (s : State) : Steady s (examine s) := (grantOne s).trans (grantOne _)

theorem present (k : OutletId) (s : State) : Steady s (present k s) := by
  have hr : Steady s (reconsider k s).1 := presentQuietly k s
  unfold Machine.present
  dsimp only
  split
  · exact hr.trans (examine _)
  · exact hr

theorem presentTarget (r : TrackRecord) (s : State) : Steady s (presentTarget Machine.present r s) := by
  unfold Machine.presentTarget
  split
  · exact present _ s
  · exact refl s

theorem turnAway (k : OutletId) (s : State) (tag : SequenceTag) : Steady s (turnAway Machine.present k s tag) := by
  unfold Machine.turnAway
  split
  · exact refl s
  · split
    · exact (of_onlyBids ((OnlyBids.withdraw k tag s).trans (.updateRecord _ _ _))).trans (presentTarget _ _)
    · exact refl s

theorem reportLoss (k : OutletId) (before : Bool) (s : State) : Steady s (reportLoss Machine.present k before s) := by
  unfold Machine.reportLoss lossOfAcceptance
  split
  · exact foldl (turnAway k) _ s
  · exact refl s

theorem takeFallback (k : OutletId) (r : TrackRecord) (s : State) : Steady s (takeFallback k r s) := by
  have h1 : Steady s (updateRecord r.tag (fun _ => fallbackRecord r s) (withdraw k r.tag s)) :=
    of_onlyBids ((OnlyBids.withdraw k r.tag s).trans (.updateRecord _ _ _))
  unfold Machine.takeFallback
  dsimp only
  split
  · exact h1.trans ((present k _).trans (presentTarget _ _))
  · exact h1.trans (presentTarget _ _)

theorem evaluateRecord (s : State) (tag : SequenceTag) : Steady s (evaluateRecord s tag) := by
  unfold Machine.evaluateRecord
  split
  · exact refl s
  · split
    · exact refl s
    · split
      · exact refl s
      · exact refl s
      · split
        · exact (of_onlyBids (.updateRecord _ _ s)).trans (present _ _)
        · exact takeFallback _ _ s
      · exact takeFallback _ _ s
      · exact takeFallback _ _ s
      · exact refl s
      · exact refl s

theorem evaluateTrack (s : State) : Steady s (evaluateTrack s) := foldl evaluateRecord _ s

/-! ### Pulse ends, cuts and halts -/

/-- The end of one pulse energises no diverter. -/
theorem deEnergise (k : OutletId) (s : State) : Steady s (deEnergise k s) := by
  refine ⟨⟨rfl, rfl, rfl, rfl⟩, fun ⟨hn, hcount, hsafe⟩ => ⟨hn, ?_, fun j hj => ?_⟩⟩
  · have hk : k.val < s.air.pulses.toList.length := by simp
    refine le_trans ?_ hcount
    simp only [energisedCount, Machine.deEnergise, State.onAir_air, ← List.countP_eq_length_filter, Vector.toList_set,
      List.countP_set hk, Option.isSome_none, Bool.false_eq_true, if_false]
    omega
  · refine hsafe j ((energised_iff j s).2 fun hoff => (energised_iff j _).1 hj ?_)
    simp only [Machine.deEnergise, State.onAir_air, Fin.getElem_fin, Vector.getElem_set]
    split
    · rfl
    · exact hoff

theorem awaitConfirm (k : OutletId) (tag : SequenceTag) (s : State) : Steady s (awaitConfirm k tag s) := onOutlet k _ s

theorem endPulse (k : OutletId) (tag : SequenceTag) (s : State) : Steady s (endPulse k tag s) :=
  (deEnergise k s).trans ((awaitConfirm k tag _).trans ((examine _).trans (present k _)))

/-- An event that moves the line out of RUN and DRAIN, or asserts the e-stop, ends in a cut. -/
theorem cutPulses_after (hu : Unwatched s u) (hn : u.air.slots = s.air.slots) : Steady s (cutPulses u) :=
  ⟨hu.trans (cutPulses_unwatched u), fun h => cutPulses_safe (by rw [hn]; exact h.1)⟩

theorem raiseReverse (s : State) : Steady s (raiseReverse s) := by
  have hn := raiseNotice (.fault s.sensing.debt s.line.state) s
  have hair : (Machine.raiseNotice (.fault s.sensing.debt s.line.state) s).air = s.air := raiseNotice_air _ s
  unfold Machine.raiseReverse
  dsimp only
  split
  · exact cutPulses_after (hn.toUnwatched.trans (.haltLine _ _)) (by rw [haltLine_air, hair])
  · exact hn

/-- The end of an event: a completed drain ends in a cut (R161). -/
theorem settleLine (s : State) : Steady s (settleLine s) := by
  unfold Machine.settleLine testDrain
  split
  · exact (cutPulses_after (.moveLine _ _ s) (by rw [moveLine_air])).trans (driveOutputs _)
  · exact driveOutputs s

end Steady

end Sys2Proof.Machine
end

section
/-! SUPPORT. Every command but power-on, INITIALIZE and those of the channels leaves the channels, the air-wait flag and
the copies of AIR and RES, and keeps the diverters safe. -/

namespace Sys2Proof.Machine

open Sys2Proof

variable {s t u : State}

namespace Steady

/-! ### Admission and retirement -/

theorem handOnOverflow (i : Nat) (n : DeviceCount) (s : State) : Steady s (handOnOverflow i n s) := by
  unfold Machine.handOnOverflow overflowOccurrence
  split
  · split
    · exact (onLink _ s).trans (raiseNotice _ _)
    · exact refl s
  · exact refl s

theorem changeAccount (c f : Fin 6) (g : Accumulator → Accumulator) (s : State) :
    Steady s (changeAccount c f g s) := by
  have hw : Steady s (writeAccount c f (evaluateAbove (thresholdOf c f s) (g (accountOf c f s))) s) := onBalance c _ s
  unfold Machine.changeAccount noticeBalance
  dsimp only
  split
  · exact hw.trans (raiseNotice _ _)
  · exact hw

theorem returnItem (owner : StationId) (wareClass : WareClass) (s : State) : Steady s (returnItem owner wareClass s) := by
  unfold Machine.returnItem
  split
  · exact changeAccount _ _ _ s
  · exact refl s

theorem admitItem (leading : Position) (footprint : Nat) (identity : Identity) (s : State) :
    Steady s (admitItem leading footprint identity s) :=
  (onTrack _ s).trans ((evaluateRecord _ _).trans (returnItem _ _ _))

theorem admitEntry (e : PendingEntry) (s : State) : Steady s (admitEntry e s) := by
  unfold Machine.admitEntry
  extract_lets found s1
  have h1 : Steady s s1 := by
    simp only [s1]
    split
    · exact refl s
    · exact onAdmission _ s
  split
  · exact h1.trans ((onAdmission _ _).trans (admitItem _ _ _ _))
  · exact h1.trans (admitItem _ _ _ _)

theorem removeEntry (e : PendingEntry) (rest : List PendingEntry) (s : State) : Steady s (removeEntry e rest s) :=
  onAdmission _ s

theorem letGo (e : PendingEntry) (rest : List PendingEntry) (s : State) : Steady s (letGo e rest s) := by
  have h1 := removeEntry e rest s
  unfold Machine.letGo
  dsimp only
  split
  · exact h1.trans (admitEntry e _)
  · exact h1.trans ((onAdmission _ _).trans (handOnOverflow _ _ _))

theorem examineHeads (n : Nat) (s : State) : Steady s (examineHeads n s) := by
  induction n generalizing s with
  | zero => exact refl s
  | succ n ih =>
    unfold Machine.examineHeads
    split
    · exact refl s
    · split
      · exact (letGo _ _ s).trans (ih _)
      · exact refl s

theorem examineHead (s : State) : Steady s (examineHead s) := by
  unfold Machine.examineHead
  split
  · exact examineHeads _ s
  · exact refl s

theorem discardHeads (n : Nat) (s : State) : Steady s (discardHeads n s) := by
  induction n generalizing s with
  | zero => exact refl s
  | succ n ih =>
    unfold Machine.discardHeads
    split
    · exact refl s
    · split
      · exact (removeEntry _ _ s).trans ((onAdmission _ _).trans (ih _))
      · exact refl s

theorem admissionAdvance (s : State) : Steady s (admissionAdvance s) := by
  unfold Machine.admissionAdvance
  split
  · exact examineHeads _ s
  · exact examineHeads _ s
  · exact discardHeads _ s
  · exact refl s

theorem retireHead (r : TrackRecord) (rest : List TrackRecord) (s : State) : Steady s (retireHead r rest s) := by
  unfold Machine.retireHead
  extract_lets s1
  have h1 : Steady s s1 := onTrack _ s
  split
  · exact h1.trans ((of_onlyBids (.withdraw _ r.tag s1)).trans (present _ _))
  · exact h1

theorem retireHeads (n : Nat) (s : State) : Steady s (retireHeads n s) := by
  induction n generalizing s with
  | zero => exact refl s
  | succ n ih =>
    unfold Machine.retireHeads
    split
    · exact refl s
    · split
      · exact (retireHead _ _ s).trans (ih _)
      · exact refl s

theorem trackAdvance (s : State) : Steady s (trackAdvance s) := (evaluateTrack s).trans (retireHeads _ _)

theorem inEitherOrder {first second : State → State} (hf : ∀ s, Steady s (first s)) (hg : ∀ s, Steady s (second s))
    (s : State) : Steady s (inEitherOrder first second s) := by
  have h1 : Steady s (s.onDraws (· + 1)) := of_blocks rfl rfl rfl
  unfold Machine.inEitherOrder inOrder
  split
  · exact h1.trans ((hg _).trans (hf _))
  · exact h1.trans ((hf _).trans (hg _))

/-! ### Outlets -/

theorem enterFull (k : OutletId) (before : Bool) (s : State) : Steady s (enterFull k before s) :=
  (onOutlet k _ s).trans ((raiseNotice _ _).trans (reportLoss k before _))

theorem enterJam (k : OutletId) (before : Bool) (s : State) : Steady s (enterJam k before s) :=
  (onOutlet k _ s).trans ((raiseNotice _ _).trans (reportLoss k before _))

theorem takePlace (k : OutletId) (before : Bool) (s : State) : Steady s (takePlace k before s) := by
  have h1 := onOutlet k (fun o => { o with currentCount := o.currentCount - 1 }) s
  unfold Machine.takePlace
  dsimp only
  split
  · exact h1.trans (enterFull k before _)
  · exact h1

theorem crateEffect (k : OutletId) (before : Bool) (s : State) : Steady s (crateEffect k before s) := by
  unfold Machine.crateEffect
  dsimp only
  split
  · exact onOutlet k _ s
  · split
    · exact onOutlet k _ s
    · exact takePlace k before s

theorem strayEvent (k : OutletId) (before : Bool) (s : State) : Steady s (strayEvent k before s) := by
  have h1 := onOutlet k (fun o => { o with stray := o.stray + 1 }) s
  unfold Machine.strayEvent
  dsimp only
  split
  · exact h1.trans (takePlace k before _)
  · exact h1

theorem confirmationEvent (k : OutletId) (before : Bool) (s : State) : Steady s (confirmationEvent k before s) := by
  have h1 : ∀ rest, Steady s (removeSorted k rest s) := fun _ => (onOutlet k _ s).trans (onTrack _ _)
  unfold Machine.confirmationEvent
  dsimp only
  split
  · exact refl s
  · split
    · exact strayEvent k before s
    · split
      · exact (h1 _).trans (crateEffect k before _)
      · exact h1 _

theorem timeoutHead (k : OutletId) (s : State) : Steady s (timeoutHead k s) := by
  unfold Machine.timeoutHead
  extract_lets before jams s1
  have h1 : Steady s s1 := (onOutlet k _ s).trans (onTrack _ _)
  split
  · exact h1.trans (enterJam k before _)
  · exact h1

theorem freshCrate (k : OutletId) (s : State) : Steady s (freshCrate k s) := by
  unfold Machine.freshCrate openOrJam
  split
  · exact (onOutlet k _ s).trans (enterJam k _ _)
  · exact (onOutlet k _ s).trans (onOutlet k _ _)

theorem removeCrate (k : OutletId) (s : State) : Steady s (removeCrate k s) := by
  unfold Machine.removeCrate
  dsimp only
  split
  · exact (onOutlet k _ s).trans ((reportLoss k _ _).trans (driveOutputs _))
  · exact refl s

theorem placeCrate (k : OutletId) (s : State) : Steady s (placeCrate k s) := by
  unfold Machine.placeCrate
  dsimp only
  split
  · split
    · exact freshCrate k s
    · exact onOutlet k _ s
  · exact refl s

theorem enterByMode (k : OutletId) (s : State) : Steady s (enterByMode k s) := by
  unfold Machine.enterByMode enterByCrate
  split
  · split
    · split
      · exact enterFull k _ s
      · exact onOutlet k _ s
    · exact onOutlet k _ s
  · exact onOutlet k _ s

theorem enterPlaced (k : OutletId) (before : OutletState) (modeBefore : OutletMode) (s : State) :
    Steady s (enterPlaced k before modeBefore s) := by
  have hm : Steady s (if s.outlets[k].mode = modeBefore then s
      else Machine.enterByMode k (s.onOutlet k fun o => { o with consecutive := 0 })) := by
    split
    · exact refl s
    · exact (onOutlet k _ s).trans (enterByMode k _)
  unfold Machine.enterPlaced
  split
  · exact refl s
  · exact enterByMode k s
  all_goals exact hm

theorem placeOutlet (k : OutletId) (p : Placement) (s : State) : Steady s (placeOutlet k p s) := by
  unfold Machine.placeOutlet
  extract_lets o s1 s2
  have h2 : Steady s s2 := by
    simp only [s2]
    split
    · exact of_blocks rfl rfl rfl
    · exact of_blocks rfl rfl rfl
  exact (h2.trans (onLink _ s2)).trans (enterPlaced k _ _ _)

/-! ### The edges of the gate inputs -/

theorem takeEdge {input : GateInput} {rising : Bool} {e : FilteredEdge}
    (he : takeEdge input rising s = some (e, t)) : Steady s t := by
  obtain ⟨-, -, others, -, rfl⟩ := takeEdge_some he
  exact of_blocks rfl rfl rfl

theorem leadingEdge (position : Position) (s : State) : Steady s (leadingEdge position s) := by
  unfold Machine.leadingEdge
  split
  · exact trans (t := openEntry position s) (onAdmission _ s) (driveOutputs _)
  · exact (onAdmission _ s).trans (handOnOverflow _ _ _)

theorem trailingEdge (position : Position) (s : State) : Steady s (trailingEdge position s) := by
  have h1 := onAdmission (fun a => { a with entries := giveTrailing position a.entries }) s
  unfold Machine.trailingEdge
  dsimp only
  split
  · exact h1.trans ((examineHead _).trans (settleLine _))
  · exact h1

theorem takeLeadingEdge (s : State) : Steady s (takeLeadingEdge s) := by
  unfold Machine.takeLeadingEdge
  split
  · exact refl s
  · next he => exact (takeEdge he).trans (leadingEdge _ _)

theorem takeTrailingEdge (s : State) : Steady s (takeTrailingEdge s) := by
  unfold Machine.takeTrailingEdge
  split
  · exact refl s
  · next he => exact (takeEdge he).trans (trailingEdge _ _)

theorem takeChuteRising (k : OutletId) (s : State) : Steady s (takeChuteRising k s) := by
  unfold Machine.takeChuteRising
  split
  · exact refl s
  · next he =>
    split
    · exact (takeEdge he).trans ((confirmationEvent k _ _).trans (settleLine _))
    · exact takeEdge he

theorem takeReadyRising (k : OutletId) (s : State) : Steady s (takeReadyRising k s) := by
  unfold Machine.takeReadyRising
  split
  · exact refl s
  · next he => exact takeEdge he

theorem takeReadyFalling (k : OutletId) (s : State) : Steady s (takeReadyFalling k s) := by
  unfold Machine.takeReadyFalling
  split
  · exact refl s
  · next he =>
    split
    · exact takeEdge he
    · exact (takeEdge he).trans (((confirmationEvent k _ _).trans (reportLoss k _ _)).trans (settleLine _))

theorem takeCrateFalling (k : OutletId) (s : State) : Steady s (takeCrateFalling k s) := by
  unfold Machine.takeCrateFalling
  split
  · exact refl s
  · next he => exact (takeEdge he).trans (removeCrate k _)

theorem takeCrateRising (k : OutletId) (s : State) : Steady s (takeCrateRising k s) := by
  unfold Machine.takeCrateRising
  split
  · exact refl s
  · next he => exact (takeEdge he).trans (placeCrate k _)

theorem handOldest (s : State) : Steady s (handOldest s) := by
  unfold Machine.handOldest
  split
  · exact refl s
  · split
    · exact takeLeadingEdge s
    · exact takeTrailingEdge s
    · exact takeChuteRising _ s
    · exact onSensing _ s
    · exact takeCrateRising _ s
    · exact takeCrateFalling _ s
    · exact takeReadyRising _ s
    · exact takeReadyFalling _ s

theorem handEdges (n : Nat) (s : State) : Steady s (handEdges n s) := by
  induction n generalizing s with
  | zero => exact refl s
  | succ n ih => exact (handOldest s).trans (ih _)

/-! ### The Identity Port -/

theorem matchRecord (capture : CaptureNumber) (identity : Identity) (s : State) :
    Steady s (matchRecord capture identity s) := by
  have h1 : Steady s (attachRecord capture identity s) := onAdmission _ s
  unfold Machine.matchRecord
  split
  · exact onAdmission _ s
  · split
    · exact onAdmission _ s
    · dsimp only
      split
      · exact h1.trans ((examineHead _).trans (settleLine _))
      · exact h1

theorem discardFrame (s : State) : Steady s (discardFrame s) :=
  trans (t := hunt s) (onAdmission _ s) (onAdmission _ _)

theorem takeByte (value : Byte) (framingError : Bool) (s : State) : Steady s (takeByte value framingError s) := by
  have hc : ∀ bytes, Steady s (collect bytes s) := fun _ => onAdmission _ s
  have hh : Steady s (hunt s) := onAdmission _ s
  unfold Machine.takeByte
  split
  · split
    · exact hc _
    · exact refl s
  · split
    · exact discardFrame s
    · split
      · exact hc _
      · unfold completeRecord
        split
        · exact hh.trans (onAdmission _ _)
        · exact hh.trans (matchRecord _ _ _)

/-! ### The encoder and the expiries -/

theorem next (h : Steady s u) (hx : (.next u : Result) = .next t) : Steady s t := keeps_next (P := Steady s) h hx

theorem execEncoderEvent (p : Phases) (hx : execEncoderEvent p s = .next t) : Steady s t := by
  have h1 : Steady s (takePhases p s) := onSensing _ s
  unfold Machine.execEncoderEvent at hx
  split at hx
  · exact next (refl s) hx
  · refine next (h1.trans ?_) hx
    unfold forwardStep
    split
    · exact onSensing _ _
    · have h2 : Steady (takePhases p s) (advancePosition (takePhases p s)) := onSensing _ _
      exact (h2.trans (inEitherOrder admissionAdvance trackAdvance _)).trans (settleLine _)
  · refine next (h1.trans ?_) hx
    have h2 := onSensing (fun b => { b with debt := min (b.debt + 1) 255 }) (takePhases p s)
    unfold reverseStep
    dsimp only
    split
    · exact h2.trans ((raiseReverse _).trans (driveOutputs _))
    · exact h2
  · exact next (h1.trans (onSensing _ _)) hx

theorem execSpeedIntervalClose (hx : execSpeedIntervalClose s = .next t) : Steady s t := by
  unfold Machine.execSpeedIntervalClose at hx
  split at hx
  · have h1 : Steady s (recomputeLeads (closeInterval s)) := of_blocks rfl rfl rfl
    exact next (h1.trans ((evaluateTrack _).trans (settleLine _))) hx
  · exact next (refl s) hx

theorem execFrameTimerExpiry (hx : execFrameTimerExpiry s = .next t) : Steady s t := by
  unfold Machine.execFrameTimerExpiry at hx
  split at hx
  · exact next (refl s) hx
  · split at hx
    · exact next (discardFrame s) hx
    · exact next (refl s) hx

theorem execCaptureMessageBegin (hx : execCaptureMessageBegin s = .next t) : Steady s t := by
  unfold Machine.execCaptureMessageBegin at hx
  split at hx
  · exact next (onAdmission _ s) hx
  · exact next (refl s) hx

theorem execPulseEnd (k : OutletId) (hx : execPulseEnd k s = .next t) : Steady s t := by
  unfold Machine.execPulseEnd at hx
  split at hx
  · exact next (refl s) hx
  · split at hx
    · exact next ((endPulse k _ s).trans (settleLine _)) hx
    · exact next (refl s) hx

theorem execConfirmTimeout (k : OutletId) (hx : execConfirmTimeout k s = .next t) : Steady s t := by
  unfold Machine.execConfirmTimeout at hx
  split at hx
  · exact next (refl s) hx
  · split at hx
    · exact next ((timeoutHead k s).trans (settleLine _)) hx
    · exact next (refl s) hx

/-! ### The e-stop line -/

theorem execEstopAssertion (hx : execEstopAssertion s = .next t) : Steady s t := by
  have h1 : Unwatched s (s.onLine fun l => { l with estop := true }) := ⟨rfl, rfl, rfl, rfl⟩
  exact next ((cutPulses_after (h1.trans (.haltLine _ _)) (by rw [haltLine_air]; rfl)).trans (driveOutputs _)) hx

theorem execEstopRelease (hx : execEstopRelease s = .next t) : Steady s t :=
  next ((onLine (fun l => { l with estop := false }) (.inl rfl) (.inr rfl) rfl rfl).trans (driveOutputs _)) hx

/-! ### The link -/

theorem execFrameArrival (frame : CanFrame) (remote : Bool) (hx : execFrameArrival frame remote s = .next t) :
    Steady s t := by
  unfold Machine.execFrameArrival at hx
  split at hx
  · exact next (refl s) hx
  · split at hx
    · exact next (refl s) hx
    · refine next ?_ hx
      unfold receiveRequest
      split
      · exact onLink _ s
      · exact onLink _ s

theorem execFrameTransmitted (hx : execFrameTransmitted s = .next t) : Steady s t := by
  unfold Machine.execFrameTransmitted at hx
  split at hx
  · exact next (onLink _ s) hx
  · exact next (refl s) hx

theorem execFrameTransmissionBegin (hx : execFrameTransmissionBegin s = .next t) : Steady s t := by
  unfold Machine.execFrameTransmissionBegin at hx
  split at hx
  · exact next (refl s) hx
  · exact next (onLink _ s) hx

theorem oldestRequest {isFor : Request → Bool} {places : Nat} {q : Request}
    (ho : oldestRequest isFor places s = some (q, t)) : Steady s t := by
  obtain ⟨rest, rfl⟩ := oldestRequest_some ho
  exact onLink _ s

theorem execUnassignedRequestCode (hx : execUnassignedRequestCode s = .next t) : Steady s t := by
  unfold Machine.execUnassignedRequestCode at hx
  split at hx
  · exact next (refl s) hx
  · next ho => exact next ((oldestRequest ho).trans (respond _ _ _ _)) hx

/-! ### Requests -/

theorem takeRequestWith {handle : Request → State → State} (hh : ∀ q s, Steady s (handle q s))
    (places code length : Nat) (linkOnly : Bool) (s : State) :
    Steady s (takeRequestWith places code length linkOnly handle s) := by
  unfold Machine.takeRequestWith
  split
  · exact refl s
  · next ho =>
    have h1 := oldestRequest ho
    split
    · exact h1.trans (respond _ _ _ _)
    · split
      · exact h1.trans (respond _ _ _ _)
      · exact h1.trans (hh _ _)

theorem takeRequest {handle : Request → State → State} (hh : ∀ q s, Steady s (handle q s)) {code length : Nat}
    {linkOnly : Bool} (hx : (.next (takeRequest code length linkOnly handle s) : Result) = .next t) : Steady s t :=
  next (takeRequestWith hh 1 code length linkOnly s) hx

theorem answerRead (f : Request → State → Option (List Byte)) (q : Request) (s : State) :
    Steady s (answerRead f q s) := by
  unfold Machine.answerRead
  split <;> exact respond _ _ _ s

/-! ### Requests to the line, the Air Arbiter and the geometry -/

theorem handleStart (q : Request) (s : State) : Steady s (handleStart q s) := by
  unfold Machine.handleStart
  split
  · exact (respond q .done [] s).trans ((moveLine _ (.inl rfl) _).trans (driveOutputs _))
  · exact respond q _ _ s

theorem handleDrain (q : Request) (s : State) : Steady s (handleDrain q s) := by
  unfold Machine.handleDrain
  split
  · exact (respond q .done [] s).trans ((moveLine _ (.inr rfl) _).trans (settleLine _))
  · exact respond q _ _ s

theorem handleStop (q : Request) (s : State) : Steady s (handleStop q s) := by
  unfold Machine.handleStop
  split
  · exact respond q _ _ s
  · have hm : Unwatched s (Machine.moveLine .standby .stop (Machine.respond q .done [] s)) :=
      (respond q .done [] s).toUnwatched.trans (.moveLine _ _ _)
    have hd : Unwatched s (discardItems (Machine.moveLine .standby .stop (Machine.respond q .done [] s))) :=
      hm.trans ⟨rfl, rfl, rfl, rfl⟩
    have hn : (Machine.moveLine .standby .stop (Machine.respond q .done [] s)).air.slots = s.air.slots := by
      rw [moveLine_air]
      rfl
    exact (cutPulses_after hd hn).trans (driveOutputs _)

theorem handleResume (q : Request) (s : State) : Steady s (handleResume q s) := by
  unfold Machine.handleResume
  split
  · next r _ =>
    have hr : r.lineState = .run ∨ r.lineState = .drain := by cases r <;> simp [ResumeState.lineState]
    split
    · exact (respond q .done [] s).trans
        ((moveLine _ hr _).trans ((inEitherOrder examineHead examine _).trans (settleLine _)))
    · exact respond q _ _ s
  all_goals exact respond q _ _ s

theorem handleSetGeometry (q : Request) (s : State) : Steady s (handleSetGeometry q s) := by
  unfold Machine.handleSetGeometry
  split
  · dsimp only
    split
    · refine trans (t := (Machine.respond q .done [] s).onGeometry fun _ =>
        { identityOffset := q.word 2, beltEnd := some (q.word 4) }) (of_blocks rfl rfl rfl) ?_
      exact (onLine _ (.inl rfl) (.inl rfl) rfl rfl).trans (driveOutputs _)
    · exact respond q _ _ s
  · exact respond q _ _ s

theorem handleSetSpeedCodes (q : Request) (s : State) : Steady s (handleSetSpeedCodes q s) := by
  unfold Machine.handleSetSpeedCodes
  dsimp only
  split
  · exact (respond q .done [] s).trans ((onLine _ (.inl rfl) (.inl rfl) rfl rfl).trans (driveOutputs _))
  · exact respond q _ _ s

/-- The slots stay 1 or 2 (R82). -/
theorem writeAir {slots : Nat} (hn : slots = 1 ∨ slots = 2) (scheme : GrantScheme) (s : State) :
    Steady s (writeAir slots scheme s) :=
  ⟨⟨rfl, rfl, rfl, rfl⟩, fun ⟨_, hcount, hsafe⟩ => ⟨hn, hcount, hsafe⟩⟩

theorem handleSetAir (q : Request) (s : State) : Steady s (handleSetAir q s) := by
  unfold Machine.handleSetAir
  dsimp only
  split
  · exact respond q _ _ s
  · split
    · next scheme _ hn =>
      have h1 := (respond q .done [] s).trans (writeAir hn scheme _)
      split
      · exact h1.trans ((examine _).trans (settleLine _))
      · exact h1
    · exact respond q _ _ s

/-! ### Requests to an outlet -/

theorem withOutlet {f : Request → OutletId → State → State} (hh : ∀ q k s, Steady s (f q k s)) (q : Request)
    (s : State) : Steady s (withOutlet q (f q) s) := by
  unfold Machine.withOutlet
  split
  · exact respond q _ _ s
  · split
    · exact hh _ _ s
    · exact respond q _ _ s

theorem handleMask : ∀ q s, Steady s (handleMask q s) := withOutlet fun q k s =>
  (respond q .done [] s).trans ((onOutlet k _ _).trans ((reportLoss k _ _).trans (driveOutputs _)))

theorem handleUnmask : ∀ q s, Steady s (handleUnmask q s) := withOutlet fun q k s =>
  (respond q .done [] s).trans (onOutlet k _ _)

theorem handleSetCrate : ∀ q s, Steady s (handleSetCrate q s) := withOutlet fun q k s => by
  dsimp only
  split
  · exact respond q _ _ s
  · split
    · exact (respond q .done [] s).trans (onOutlet k _ _)
    · exact respond q _ _ s

theorem handleReloadCrate : ∀ q s, Steady s (handleReloadCrate q s) := withOutlet fun q k s => by
  dsimp only
  split
  · exact (respond q .done [] s).trans (freshCrate k _)
  · exact respond q _ _ s

theorem handleClearJam : ∀ q s, Steady s (handleClearJam q s) := withOutlet fun q k s => by
  split
  · exact (respond q .done [] s).trans ((onOutlet k _ _).trans (enterByMode k _))
  · exact respond q _ _ s

theorem handleSetPlaceTiming (q : Request) (s : State) : Steady s (handleSetPlaceTiming q s) := by
  unfold Machine.handleSetPlaceTiming
  split
  · exact respond q _ _ s
  · exact (respond q .done [] s).trans (onLink _ _)

theorem handleSetOutletPlace (q : Request) (s : State) : Steady s (handleSetOutletPlace q s) := by
  unfold Machine.handleSetOutletPlace
  split
  · exact respond q _ _ s
  · split
    · exact respond q _ _ s
    · split
      · exact respond q _ _ s
      · split
        · exact respond q _ _ s
        · exact (respond q .done [] s).trans (placeOutlet _ _ _)

/-! ### Routes and balances -/

theorem handleSetRoute (q : Request) (s : State) : Steady s (handleSetRoute q s) := by
  unfold Machine.handleSetRoute
  split
  · split
    · split
      · split
        · exact respond q _ _ s
        · split
          · exact of_blocks rfl rfl rfl
          · exact respond q _ _ s
      · exact respond q _ _ s
    · exact respond q _ _ s
  · exact respond q _ _ s

theorem withAccount {allowed : Fin 6 → StationId → Bool} {f : Request → Fin 6 → Fin 6 → State → State}
    (hh : ∀ q c i s, Steady s (f q c i s)) (q : Request) (s : State) : Steady s (withAccount q allowed (f q) s) := by
  unfold Machine.withAccount
  split
  · split
    · exact hh _ _ _ s
    · exact respond q _ _ s
  · exact respond q _ _ s

theorem takeChange (q : Request) (c f : Fin 6) (g : Accumulator → Accumulator) (s : State) :
    Steady s (takeChange q c f g s) := (respond q .done _ s).trans (changeAccount c f g _)

theorem handleIssue : ∀ q s, Steady s (handleIssue q s) := withAccount fun q c f s => by
  dsimp only
  split
  · exact takeChange q c f _ s
  · exact respond q _ _ s

theorem handleAdjust : ∀ q s, Steady s (handleAdjust q s) := withAccount fun q c f s => by
  dsimp only
  split
  · exact takeChange q c f _ s
  · exact respond q _ _ s

theorem handleSetValue : ∀ q s, Steady s (handleSetValue q s) := withAccount fun q c f s => takeChange q c f _ s

theorem handleSetThreshold : ∀ q s, Steady s (handleSetThreshold q s) := withAccount fun q c f s => by
  dsimp only
  split
  · exact (onBalance c _ s).trans (takeChange q c f _ _)
  · exact respond q _ _ s

theorem handleClearFlags : ∀ q s, Steady s (handleClearFlags q s) := withAccount fun q c _ s =>
  (respond q .done _ s).trans (onBalance c _ _)

theorem handleSetBalanceMode (q : Request) (s : State) : Steady s (handleSetBalanceMode q s) := by
  unfold Machine.handleSetBalanceMode
  split
  · exact respond q _ _ s
  · split
    · split
      · exact respond q _ _ s
      · exact (respond q .done _ s).trans (onBalance _ _ _)
    · exact respond q _ _ s

/-! ### Masks and polls -/

theorem handleSetNoticeMask (q : Request) (s : State) : Steady s (handleSetNoticeMask q s) := of_blocks rfl rfl rfl

theorem handlePollNotices (q : Request) (s : State) : Steady s (handlePollNotices q s) := by
  unfold Machine.handlePollNotices
  extract_lets st removed left s1 s2 s3
  have h2 : Steady s s2 := of_blocks rfl rfl rfl
  have h3 : Steady s s3 := h2.trans (foldl (fun _ _ => onLink _ _) removed s2)
  split
  · exact h3.trans (onLink _ _)
  · exact h3

end Steady

/-! ## The commands -/

/-- The commands that write a channel: those of the channels themselves, INITIALIZE and power-on (R130 to R142). -/
inductive WritesChannel : Instr → Prop
  | powerOn (p : Phases) (e : Bool) : WritesChannel (.powerOn p e)
  | initializeLine : WritesChannel .initializeLine
  | settleTimeExpiry (c : ChannelId) : WritesChannel (.settleTimeExpiry c)
  | channelSample (c : ChannelId) (above : Bool) : WritesChannel (.channelSample c above)
  | setChannel : WritesChannel .setChannel
  | enableChannel : WritesChannel .enableChannel
  | channelOff : WritesChannel .channelOff

theorem steady_exec {c : Instr} (hc : ¬ WritesChannel c) (hx : exec c s = .next t) : Steady s t := by
  cases c with
  | powerOn p e => exact absurd (.powerOn p e) hc
  | initializeLine => exact absurd .initializeLine hc
  | settleTimeExpiry c => exact absurd (.settleTimeExpiry c) hc
  | channelSample c above => exact absurd (.channelSample c above) hc
  | setChannel => exact absurd .setChannel hc
  | enableChannel => exact absurd .enableChannel hc
  | channelOff => exact absurd .channelOff hc
  | encoderEvent p => exact .execEncoderEvent p hx
  | speedIntervalClose => exact .execSpeedIntervalClose hx
  | geLeadingEdge => exact .next (.takeLeadingEdge s) hx
  | geTrailingEdge => exact .next (.takeTrailingEdge s) hx
  | chuteGateRising k => exact .next (.takeChuteRising k s) hx
  | crateRemoved k => exact .next (.takeCrateFalling k s) hx
  | cratePlaced k => exact .next (.takeCrateRising k s) hx
  | readyLineRising k => exact .next (.takeReadyRising k s) hx
  | readyLineFalling k => exact .next (.takeReadyFalling k s) hx
  | receiveByte value framingError => exact .next (.takeByte value framingError s) hx
  | frameTimerExpiry => exact .execFrameTimerExpiry hx
  | captureMessageBegin => exact .execCaptureMessageBegin hx
  | captureMessageSent => exact .next (.onAdmission _ s) hx
  | pulseEnd k => exact .execPulseEnd k hx
  | confirmTimeout k => exact .execConfirmTimeout k hx
  | estopAssertion => exact .execEstopAssertion hx
  | estopRelease => exact .execEstopRelease hx
  | frameArrival frame remote => exact .execFrameArrival frame remote hx
  | frameTransmitted => exact .execFrameTransmitted hx
  | frameTransmissionBegin => exact .execFrameTransmissionBegin hx
  | unassignedRequestCode => exact .execUnassignedRequestCode hx
  | inputSample ge chutes crates readies =>
    refine .next ?_ hx
    exact (Steady.handEdges s.sensing.edges.length s).trans (.of_blocks rfl rfl rfl)
  | start => exact .takeRequest .handleStart hx
  | drain => exact .takeRequest .handleDrain hx
  | stop => exact .takeRequest .handleStop hx
  | resume => exact .takeRequest .handleResume hx
  | setGeometry => exact .takeRequest .handleSetGeometry hx
  | setSpeedCodes => exact .takeRequest .handleSetSpeedCodes hx
  | setAir => exact .takeRequest .handleSetAir hx
  | setPlaceTiming => exact .takeRequest .handleSetPlaceTiming hx
  | setOutletPlace => exact .takeRequest .handleSetOutletPlace hx
  | mask => exact .takeRequest Steady.handleMask hx
  | unmask => exact .takeRequest Steady.handleUnmask hx
  | setCrate => exact .takeRequest Steady.handleSetCrate hx
  | reloadCrate => exact .takeRequest Steady.handleReloadCrate hx
  | clearJam => exact .takeRequest Steady.handleClearJam hx
  | setRoute => exact .takeRequest .handleSetRoute hx
  | issue => exact .takeRequest Steady.handleIssue hx
  | adjust => exact .takeRequest Steady.handleAdjust hx
  | setValue => exact .takeRequest Steady.handleSetValue hx
  | setBalanceMode => exact .takeRequest .handleSetBalanceMode hx
  | setThreshold => exact .takeRequest Steady.handleSetThreshold hx
  | clearFlags => exact .takeRequest Steady.handleClearFlags hx
  | readLine => exact .takeRequest (.answerRead _) hx
  | readOutlet => exact .takeRequest (.answerRead _) hx
  | readConfirmQueue => exact .takeRequest (.answerRead _) hx
  | readTrackEntry => exact .takeRequest (.answerRead _) hx
  | readPending => exact .takeRequest (.answerRead _) hx
  | readRoute => exact .takeRequest (.answerRead _) hx
  | readChannel => exact .takeRequest (.answerRead _) hx
  | readBalance => exact .takeRequest (.answerRead _) hx
  | readCounts => exact .takeRequest (.answerRead _) hx
  | setNoticeMask => exact .takeRequest .handleSetNoticeMask hx
  | pollNotices => exact .next (.takeRequestWith .handlePollNotices 3 0x3F 2 false s) hx

end Sys2Proof.Machine
end

section
/-! SUPPORT. The verdicts of a channel, and what a detection and a release reach: the outlet of a fill probe, the Air
Arbiter, the Line Controller (R87, R128, R136 to R140, R168). -/

namespace Sys2Proof.Machine

open Sys2Proof

variable {c : ChannelId} {k : OutletId} {above shown : Bool} {s : State} {t : Nat}

/-! ## The channels by what they supervise (R128) -/

/-- A channel is AIR, RES, or the fill probe of an outlet. -/
theorem channel_cases (c : ChannelId) : c = airChannel ∨ c = resChannel ∨ ∃ k : OutletId, k.val = c.val := by
  by_cases hk : c.val < 12
  · exact .inr (.inr ⟨⟨c.val, hk⟩, rfl⟩)
  · have hair : airChannel.val = 12 := rfl
    have hres : resChannel.val = 13 := rfl
    rcases (show c.val = 12 ∨ c.val = 13 by omega) with h | h
    · exact .inl (Fin.ext (h.trans hair.symm))
    · exact .inr (.inl (Fin.ext (h.trans hres.symm)))

theorem probe_ne (hk : k.val = c.val) : c ≠ airChannel ∧ c ≠ resChannel := by
  constructor <;> rintro rfl
  · exact absurd hk (Nat.ne_of_lt k.isLt)
  · exact absurd hk (Nat.ne_of_lt (Nat.lt_succ_of_lt k.isLt))

theorem probedOutlet_of_val (hk : k.val = c.val) : probedOutlet c = some k := by
  rw [probedOutlet, dif_pos (hk ▸ k.isLt)]
  exact congrArg some (Fin.ext hk.symm)

theorem copyDetected_of_probe (hk : k.val = c.val) (detected : Bool) (s : State) : copyDetected c detected s = s := by
  rw [copyDetected, if_neg (probe_ne hk).1, if_neg (probe_ne hk).2]

/-! ## A detection handed on (R139) -/

theorem handDetection_of_open (hk : k.val = c.val) (hm : s.outlets[k].mode = .crate)
    (ho : s.outlets[k].state = .opened) : handDetection c s = enterFull k (accepting k s) s := by
  unfold handDetection
  simp only [copyDetected_of_probe hk, probedOutlet_of_val hk]
  rw [if_pos ⟨hm, ho⟩]

theorem handDetection_of_not_open (hk : k.val = c.val)
    (h : ¬ (s.outlets[k].mode = .crate ∧ s.outlets[k].state = .opened)) : handDetection c s = s := by
  unfold handDetection
  simp only [copyDetected_of_probe hk, probedOutlet_of_val hk]
  rw [if_neg h]

theorem handDetection_air (s : State) : handDetection airChannel s =
    (s.onLine fun l => { l with airCopy := true }).onAir fun a => { a with airWait := true } := rfl

theorem handDetection_res (s : State) : handDetection resChannel s = s.onLine fun l => { l with resCopy := true } := rfl

theorem enterFull_channels (k : OutletId) (before : Bool) (s : State) :
    (enterFull k before s).channels = s.channels := by
  unfold enterFull
  dsimp only
  rw [(reportLoss_diversion present_diversion k before _).channels]
  obtain ⟨l, -, h⟩ := raiseNotice_onLink (.crateFull k _ _) (s.onOutlet k _)
  rw [h]
  rfl

theorem handDetection_channels (c : ChannelId) (s : State) : (handDetection c s).channels = s.channels := by
  rcases channel_cases c with rfl | rfl | ⟨k, hk⟩
  · rfl
  · rfl
  · by_cases ho : s.outlets[k].mode = .crate ∧ s.outlets[k].state = .opened
    · rw [handDetection_of_open hk ho.1 ho.2, enterFull_channels]
    · rw [handDetection_of_not_open hk ho]

/-- The count and the notice of a detection, in a state whose record of the channel had the settings of `ch`
(R140). -/
def countDetection (c : ChannelId) (ch : Channel) (s : State) : State :=
  let counted := s.onChannel c fun ch => { ch with detectionCount := ch.detectionCount + 1 }
  if ch.edges = .detect ∨ ch.edges = .both then raiseNotice (.channel c .detect ch.trip ch.release) counted
  else counted

theorem detection_eq (c : ChannelId) (s : State) :
    detection c s = countDetection c s.channels[c] (handDetection c s) := by
  have hget : ((handDetection c s).onChannel c fun ch =>
      { ch with detectionCount := ch.detectionCount + 1 }).channels[c] =
        { s.channels[c] with detectionCount := s.channels[c].detectionCount + 1 } := by
    rw [State.onChannel_get, if_pos rfl, handDetection_channels]
  unfold detection countDetection noticeChannel
  simp only [hget]
  cases s.channels[c].edges <;> simp

/-! ## A release noticed (R140) -/

/-- The notice of a release, in a state whose record of the channel had the settings of `ch` (R140). -/
def noticeRelease (c : ChannelId) (ch : Channel) (s : State) : State :=
  if ch.edges = .release ∨ ch.edges = .both then raiseNotice (.channel c .release ch.trip ch.release) s else s

theorem releaseVerdict_eq (c : ChannelId) (s : State) :
    releaseVerdict c s = noticeRelease c s.channels[c] (handRelease c s) := by
  unfold releaseVerdict noticeRelease noticeChannel
  simp only [handRelease_channels]
  cases s.channels[c].edges <;> simp

/-! ## Verdicts (R136 to R138) -/

theorem scheduleSample_mode (c : ChannelId) (s : State) :
    (scheduleSample c s).channels[c].mode = s.channels[c].mode := by rw [scheduleSample_get]

theorem firstVerdict_of_watch (hm : s.channels[c].mode = .watch) : firstVerdict c shown s =
    let v := s.onChannel c fun ch =>
      { ch with state := .watching, ready := true, detected := shown, firstRun := none, opposing := 0,
                lastVerdict := verdictOf shown }
    if shown = true then detection c v else v := by
  simp only [firstVerdict, hm, State.onChannel_onChannel]

theorem firstVerdict_of_report
    (hm : s.channels[c].mode = .checkReport ∨ (s.channels[c].mode = .checkAlert ∧ shown = true)) :
    firstVerdict c shown s = raiseNotice (.checkDone c (verdictOf shown))
      (s.onChannel c fun ch => { ch.turnedOff with lastVerdict := verdictOf shown }) := by
  rcases hm with hm | ⟨hm, hs⟩
  · simp only [firstVerdict, hm, State.onChannel_onChannel]
    rfl
  · simp only [firstVerdict, hm, hs, if_true, State.onChannel_onChannel]
    rfl

theorem firstVerdict_of_quiet (hm : s.channels[c].mode = .checkAlert) (hs : shown = false) :
    firstVerdict c shown s = s.onChannel c fun ch => { ch.turnedOff with lastVerdict := verdictOf shown } := by
  simp only [firstVerdict, hm, hs, Bool.false_eq_true, if_false, State.onChannel_onChannel]
  rfl

/-- The third agreeing sample gives the first verdict. -/
theorem sampleFirst_third (h : s.channels[c].firstRun = some (shown, 2)) :
    sampleFirst c shown s = firstVerdict c shown s := by
  simp only [sampleFirst, h, firstRunAfter_agrees]
  exact if_pos le_rfl

/-- The third opposing sample changes the verdict. -/
theorem sampleWatching_third (h : shown ≠ s.channels[c].detected) (hn : s.channels[c].opposing = 2) :
    sampleWatching c shown s =
      let v := s.onChannel c fun ch => { ch with detected := shown, opposing := 0, lastVerdict := verdictOf shown }
      if shown = true then detection c v else releaseVerdict c v := by
  simp only [sampleWatching, if_neg h, hn, lt_irrefl, if_false]

section

variable (hn : s.channels[c].nextSample = some t) (ht : t ≤ s.now)
include hn ht

theorem exec_channelSample_verdict (hs : s.channels[c].state = .samplingFirst)
    (hr : s.channels[c].firstRun = some (showsCondition c above, 2)) : exec (.channelSample c above) s =
      .next (driveOutputs (firstVerdict c (showsCondition c above) (scheduleSample c s))) := by
  rw [exec_channelSample_first hn ht hs, sampleFirst_third (by rw [scheduleSample_get]; exact hr)]

theorem exec_channelSample_change (hs : s.channels[c].state = .watching)
    (hd : showsCondition c above ≠ s.channels[c].detected) (h2 : s.channels[c].opposing = 2) :
    exec (.channelSample c above) s = .next (driveOutputs
      (let v := (scheduleSample c s).onChannel c fun ch =>
        { ch with detected := showsCondition c above, opposing := 0, lastVerdict := verdictOf (showsCondition c above) }
       if showsCondition c above = true then detection c v else releaseVerdict c v)) := by
  rw [exec_channelSample_watching hn ht hs, sampleWatching_third] <;> rw [scheduleSample_get]
  · exact hd
  · exact h2

end

end Sys2Proof.Machine

open Sys2Proof Sys2Proof.Machine

/-- Settles O45: the verdict by the state and the mode of its channel, and its effects by what the channel supervises. -/
theorem channelVerdictsAct : Obligations.ChannelVerdictsAct := by
  refine ⟨fun c above t s hn ht => ?_, fun c v => ?_, fun c v => ?_⟩
  · intro ch shown verdict w off
    have hoff : off = (scheduleSample c s).onChannel c fun ch =>
        { ch.turnedOff with lastVerdict := verdictOf shown } := by
      simp only [off, w, scheduleSample, State.onChannel_onChannel]
      rfl
    have hmode : (scheduleSample c s).channels[c].mode = ch.mode := scheduleSample_mode c s
    refine ⟨fun hs hr => ⟨fun hm => ?_, fun hm => ?_, fun hm hc => ?_⟩, fun hs hd h2 => ?_⟩
    · intro v
      have hv : v = (scheduleSample c s).onChannel c fun ch =>
          { ch with state := .watching, ready := true, detected := shown, firstRun := none, opposing := 0,
                    lastVerdict := verdictOf shown } := by
        simp only [v, w, scheduleSample, State.onChannel_onChannel]
        rfl
      rw [exec_channelSample_verdict hn ht hs hr, firstVerdict_of_watch (hmode.trans hm), hv]
      rfl
    · rw [← hmode] at hm
      rw [exec_channelSample_verdict hn ht hs hr, hoff]
      exact congrArg (fun x => Host.Outcome.next (driveOutputs x)) (firstVerdict_of_report hm)
    · rw [exec_channelSample_verdict hn ht hs hr, hoff]
      exact congrArg (fun x => Host.Outcome.next (driveOutputs x)) (firstVerdict_of_quiet (hmode.trans hm) hc)
    · intro v
      have hv : v = (scheduleSample c s).onChannel c fun ch =>
          { ch with detected := shown, opposing := 0, lastVerdict := verdictOf shown } := by
        simp only [v, w, scheduleSample, State.onChannel_onChannel]
        rfl
      rw [exec_channelSample_change hn ht hs hd h2, hv]
      rfl
  · intro ch reported
    have heq : detection c v = reported (handDetection c v) := detection_eq c v
    refine ⟨fun k hk => ⟨fun hm ho => ?_, fun hno => ?_⟩, ?_, ?_⟩
    · rw [heq, handDetection_of_open hk hm ho]
    · rw [heq, handDetection_of_not_open hk hno]
    · rintro rfl
      exact heq
    · rintro rfl
      exact heq
  · intro ch noticed
    have heq : releaseVerdict c v = noticed (handRelease c v) := releaseVerdict_eq c v
    refine ⟨fun ha hr => ?_, fun ha => ?_, fun hr => ?_⟩
    · rw [heq, handRelease_eq, if_neg ha, if_neg hr]
    · rw [heq, handRelease_eq, if_pos ha]
    · have ha : c ≠ airChannel := by rw [hr]; decide
      rw [heq, handRelease_eq, if_neg ha, if_pos hr]
end

section
/-! SUPPORT. What every steady change keeps, every step keeps, if the commands that write a channel keep it; and these keep
the diverters safe (R77, R91). -/

namespace Sys2Proof.Machine

open Sys2Proof

variable {P : State → Prop} {s t : State}

/-! ## Properties that steady changes keep -/

/-- A request command changes nothing that is watched, or runs its handler on the state with the request taken. -/
theorem takeRequest_steady_or_handled (code length : Nat) (linkOnly : Bool) (handle : Request → State → State)
    (s : State) : Steady s (takeRequest code length linkOnly handle s) ∨
      ∃ q rest, takeRequest code length linkOnly handle s = handle q (s.unanswered rest) := by
  unfold takeRequest takeRequestWith
  split
  · exact .inl (.refl s)
  · next q s1 ho =>
    obtain ⟨rest, rfl⟩ := oldestRequest_some ho
    have h1 : Steady s (s.unanswered rest) := .onLink _ s
    split
    · exact .inl (h1.trans (.respond _ _ _ _))
    · split
      · exact .inl (h1.trans (.respond _ _ _ _))
      · exact .inr ⟨q, rest, rfl⟩

section

variable (hP : ∀ {s t}, Steady s t → P s → P t)
include hP

theorem handled_keeps {code length : Nat} {linkOnly : Bool} {handle : Request → State → State}
    (hh : ∀ q s, P s → P (handle q s)) (hs : P s)
    (hx : (.next (takeRequest code length linkOnly handle s) : Result) = .next t) : P t := by
  refine keeps_next ?_ hx
  rcases takeRequest_steady_or_handled code length linkOnly handle s with h | ⟨q, rest, h⟩
  · exact hP h hs
  · rw [h]
    exact hh q _ (hP (.onLink _ s) hs)

theorem withChannel_keeps {f : Request → ChannelId → State → State} (hf : ∀ q c s, P s → P (f q c s)) (q : Request)
    (s : State) (hs : P s) : P (withChannel q (f q) s) := by
  unfold withChannel
  split
  · exact hP (.respond _ _ _ s) hs
  · split
    · exact hf _ _ _ hs
    · exact hP (.respond _ _ _ s) hs

/-- Every step keeps it, if the commands that write a channel do. -/
theorem step_keeps (hw : ∀ {c : Instr} {s t : State}, WritesChannel c → P s → exec c s = .next t → P t) (hs : P s)
    (hx : step s = .next t) : P t := by
  cases hp : s.pending with
  | nil =>
    rw [step_of_pending_nil hp] at hx
    exact keeps_next hs hx
  | cons c rest =>
    rw [step_of_pending_cons hp] at hx
    have h1 : P { s with pending := rest } := hP (.of_blocks (s := s) rfl rfl rfl) hs
    by_cases hc : WritesChannel c
    · exact hw hc h1 hx
    · exact hP (steady_exec hc hx) h1

end

/-! ## The diverters, and the commands that write a channel -/

namespace DivertersSafe

/-- No detected state bears on the diverters that are energised. -/
theorem copyDetected (h : DivertersSafe s) (c : ChannelId) (detected : Bool) :
    DivertersSafe (copyDetected c detected s) := by
  unfold Machine.copyDetected
  split
  · exact h
  · split
    · exact h
    · exact h

theorem handDetection (h : DivertersSafe s) (c : ChannelId) : DivertersSafe (handDetection c s) := by
  have h1 := h.copyDetected c true
  unfold Machine.handDetection
  dsimp only
  split
  · split
    · exact (Steady.enterFull _ _ _).safe h1
    · exact h1
  · split
    · exact h1
    · exact h1

theorem handRelease (h : DivertersSafe s) (c : ChannelId) : DivertersSafe (handRelease c s) := by
  have h1 := h.copyDetected c false
  have h2 : DivertersSafe ((Machine.copyDetected c false s).onAir fun a => { a with airWait := false }) := h1
  unfold Machine.handRelease
  dsimp only
  split
  · exact (Steady.examine _).safe h2
  · exact h1

theorem onChannel (h : DivertersSafe s) (c : ChannelId) (f : Channel → Channel) : DivertersSafe (s.onChannel c f) := h

theorem raiseNotice (h : DivertersSafe s) (n : Notice) : DivertersSafe (raiseNotice n s) :=
  (Steady.raiseNotice n s).safe h

theorem detection (h : DivertersSafe s) (c : ChannelId) : DivertersSafe (detection c s) := by
  have h1 := (h.handDetection c).onChannel c fun ch => { ch with detectionCount := ch.detectionCount + 1 }
  rw [detection_eq, countDetection]
  split
  · exact h1.raiseNotice _
  · exact h1

theorem releaseVerdict (h : DivertersSafe s) (c : ChannelId) : DivertersSafe (releaseVerdict c s) := by
  rw [releaseVerdict_eq, noticeRelease]
  split
  · exact (h.handRelease c).raiseNotice _
  · exact h.handRelease c

theorem firstVerdict (h : DivertersSafe s) (c : ChannelId) (shown : Bool) :
    DivertersSafe (firstVerdict c shown s) := by
  have hc : ∀ f g, DivertersSafe ((s.onChannel c f).onChannel c g) := fun _ _ => h
  unfold Machine.firstVerdict
  dsimp only
  split
  · split
    · exact (hc _ _).detection c
    · exact hc _ _
  · exact (hc _ _).raiseNotice _
  · split
    · exact (hc _ _).raiseNotice _
    · exact hc _ _

theorem sampleFirst (h : DivertersSafe s) (c : ChannelId) (shown : Bool) : DivertersSafe (sampleFirst c shown s) := by
  unfold Machine.sampleFirst
  dsimp only
  split
  · exact h.firstVerdict c _
  · exact h

theorem sampleWatching (h : DivertersSafe s) (c : ChannelId) (shown : Bool) :
    DivertersSafe (sampleWatching c shown s) := by
  have hc : ∀ f, DivertersSafe (s.onChannel c f) := fun _ => h
  unfold Machine.sampleWatching
  dsimp only
  split
  · exact hc _
  · split
    · exact hc _
    · split
      · exact (hc _).detection c
      · exact (hc _).releaseVerdict c

theorem execSettleTimeExpiry (h : DivertersSafe s) (c : ChannelId) (hx : execSettleTimeExpiry c s = .next t) :
    DivertersSafe t := by
  unfold Machine.execSettleTimeExpiry at hx
  split at hx
  · split at hx
    · refine keeps_next (P := DivertersSafe) ?_ hx
      exact h
    · exact keeps_next h hx
  · exact keeps_next h hx

theorem execChannelSample (h : DivertersSafe s) (c : ChannelId) (above : Bool)
    (hx : execChannelSample c above s = .next t) : DivertersSafe t := by
  have h1 : DivertersSafe (scheduleSample c s) := h
  unfold Machine.execChannelSample at hx
  split at hx
  · exact keeps_next h hx
  · split at hx
    · split at hx
      · exact keeps_next ((Steady.driveOutputs _).safe (h1.sampleFirst c _)) hx
      · exact keeps_next ((Steady.driveOutputs _).safe (h1.sampleWatching c _)) hx
      · exact keeps_next h hx
      · exact keeps_next h hx
    · exact keeps_next h hx

theorem handleSetChannel : ∀ q s, DivertersSafe s → DivertersSafe (handleSetChannel q s) :=
  withChannel_keeps Steady.safe fun q c s h => by
    split
    · split
      · split
        · exact h
        · exact h
      · exact h
    · exact h

theorem handleEnableChannel : ∀ q s, DivertersSafe s → DivertersSafe (handleEnableChannel q s) :=
  withChannel_keeps Steady.safe fun q c s h => by
    split
    · exact h
    · exact h

theorem handleChannelOff : ∀ q s, DivertersSafe s → DivertersSafe (handleChannelOff q s) :=
  withChannel_keeps Steady.safe fun q c s h => by
    have hc : ∀ f, DivertersSafe ((respond q .done [] s).onChannel c f) := fun _ => h
    dsimp only
    split
    · exact (Steady.driveOutputs _).safe (((hc _).handRelease c).raiseNotice _)
    · exact hc _

theorem initializeBlocks (h : DivertersSafe s) : DivertersSafe (initializeBlocks s) := h.congr rfl rfl id id

/-- INITIALIZE cuts every pulse before the blocks make their own effects (R166). -/
theorem handleInitialize (q : Request) (s : State) (h : DivertersSafe s) : DivertersSafe (handleInitialize q s) := by
  unfold Machine.handleInitialize
  extract_lets s1 s2
  have hcut : DivertersSafe (cutPulses (discardItems s1)) := cutPulses_safe h.1
  have h2 : DivertersSafe s2 := hcut.initializeBlocks
  exact ((Steady.respond q .done [] s2).trans ((Steady.raiseNotice _ _).trans (.driveOutputs _))).safe h2

theorem exec {c : Instr} (hc : WritesChannel c) (h : DivertersSafe s) (hx : exec c s = .next t) : DivertersSafe t := by
  cases hc with
  | powerOn p e => exact keeps_next (divertersSafe_powerOn p e s) hx
  | initializeLine => exact handled_keeps Steady.safe handleInitialize h hx
  | settleTimeExpiry c => exact h.execSettleTimeExpiry c hx
  | channelSample c above => exact h.execChannelSample c above hx
  | setChannel => exact handled_keeps Steady.safe handleSetChannel h hx
  | enableChannel => exact handled_keeps Steady.safe handleEnableChannel h hx
  | channelOff => exact handled_keeps Steady.safe handleChannelOff h hx

end DivertersSafe

end Sys2Proof.Machine

open Sys2Proof Sys2Proof.Machine

/-- Settles O5: a grant energises a diverter only where one is free on a moving line with the e-stop released, and what
brings the line out of RUN and DRAIN or asserts the e-stop ends in a cut. -/
theorem stepKeepsDivertersSafe : Obligations.StepKeepsDivertersSafe :=
  fun _ _ hs hx => step_keeps Steady.safe DivertersSafe.exec hs hx
end

section
/-! SUPPORT. The record of a channel by its state, and the air-wait flag and the copies of AIR and RES while a verdict on
one channel is on its way to them (R87, R129, R133 to R142, R168). -/

namespace Sys2Proof.Machine

open Sys2Proof

variable {c : ChannelId} {ch : Channel} {shown : Bool} {s t : State}

/-! ## The record of a channel -/

/-- A channel's record is that of its state (R133 to R138). -/
structure ChannelSound (ch : Channel) : Prop where
  ready : ch.ready = true ↔ ch.state = .watching
  detected : ch.detected = true → ch.state = .watching
  settleEnd : ch.settleEnd ≠ none ↔ ch.state = .settling
  nextSample : ch.nextSample ≠ none ↔ ch.state = .samplingFirst ∨ ch.state = .watching
  opposing : ch.opposing ≤ 2
  firstRun : ch.state ≠ .samplingFirst → ch.firstRun = none
  runLength : ∀ b n, ch.firstRun = some (b, n) → n = 1 ∨ n = 2

namespace ChannelSound

theorem notDetected (h : ChannelSound ch) (hs : ch.state ≠ .watching) : ch.detected = false :=
  Bool.eq_false_iff.2 fun hd => hs (h.detected hd)

/-- A channel back in OFF (R141). -/
theorem turnedOff (v : Verdict) : ChannelSound { ch.turnedOff with lastVerdict := v } := by
  constructor <;> simp [Channel.turnedOff]

theorem initialized (ch : Channel) : ChannelSound ch.initialized := turnedOff _

/-- A change of the settings of a channel, of its last verdict or of its count. -/
theorem congr {ch' : Channel} (h : ChannelSound ch) (he : ch' = { ch with
      mode := ch'.mode, trip := ch'.trip, release := ch'.release, period := ch'.period, edges := ch'.edges,
      lastVerdict := ch'.lastVerdict, detectionCount := ch'.detectionCount }) : ChannelSound ch' := by
  rw [he]
  exact ⟨h.ready, h.detected, h.settleEnd, h.nextSample, h.opposing, h.firstRun, h.runLength⟩

/-- A channel in OFF goes to SETTLING (R133). -/
theorem settling (h : ChannelSound ch) (hs : ch.state = .off) (t : Nat) :
    ChannelSound { ch with state := .settling, settleEnd := some t } where
  ready := by simpa [hs] using h.ready
  detected := by simpa [hs] using h.detected
  settleEnd := by simp
  nextSample := by simpa [hs] using h.nextSample
  opposing := h.opposing
  firstRun _ := h.firstRun (by simp [hs])
  runLength := h.runLength

/-- A channel in SETTLING goes to SAMPLING-FIRST (R134). -/
theorem samplingFirst (h : ChannelSound ch) (hs : ch.state = .settling) (t : Nat) :
    ChannelSound { ch with state := .samplingFirst, settleEnd := none, firstRun := none, nextSample := some t } where
  ready := by simpa [hs] using h.ready
  detected := by simpa [hs] using h.detected
  settleEnd := by simp
  nextSample := by simp
  opposing := h.opposing
  firstRun := by simp
  runLength := by simp

/-- The next sample instant of a channel that samples (R134). -/
theorem scheduled (h : ChannelSound ch) (hs : ch.state = .samplingFirst ∨ ch.state = .watching) (t : Nat) :
    ChannelSound { ch with nextSample := some t } :=
  { h with nextSample := by simpa using hs }

/-- A first run short of three (R135). -/
theorem counted (h : ChannelSound ch) (hs : ch.state = .samplingFirst) {run : Bool × Nat}
    (hr : run.2 = 1 ∨ run.2 = 2) : ChannelSound { ch with firstRun := some run } :=
  { h with
    firstRun := fun hne => absurd hs hne
    runLength := fun b n hn => by cases hn; exact hr }

/-- The first verdict in WATCH: the channel goes on to WATCHING (R136). -/
theorem watching (h : ChannelSound ch) (hs : ch.state = .samplingFirst) (shown : Bool) (v : Verdict) :
    ChannelSound { ch with state := .watching, ready := true, detected := shown, firstRun := none, opposing := 0,
                           lastVerdict := v } where
  ready := by simp
  detected _ := rfl
  settleEnd := by simpa [hs] using h.settleEnd
  nextSample := by simpa [hs] using h.nextSample
  opposing := Nat.zero_le 2
  firstRun _ := rfl
  runLength := by simp

/-- A channel in WATCHING with its verdict and its opposing count (R138). -/
theorem opposed (h : ChannelSound ch) (hs : ch.state = .watching) (detected : Bool) {n : Nat} (hn : n ≤ 2)
    (v : Verdict) : ChannelSound { ch with detected := detected, opposing := n, lastVerdict := v } :=
  { h with detected := fun _ => hs, opposing := hn }

end ChannelSound

/-- A run of one or two samples is one of one to three after another (R135). -/
theorem firstRunAfter_length (shown : Bool) {run : Option (Bool × Nat)} (h : ∀ b n, run = some (b, n) → n = 1 ∨ n = 2) :
    (firstRunAfter shown run).2 = 1 ∨ (firstRunAfter shown run).2 = 2 ∨ (firstRunAfter shown run).2 = 3 := by
  unfold firstRunAfter
  split
  · exact .inl rfl
  · next candidate count =>
    have := h candidate count rfl
    split
    · dsimp only
      omega
    · exact .inl rfl

/-! ## The copies of AIR and RES -/

/-- The air-wait flag and the copies of AIR and RES are the detected states of those channels, but for what channel `c`
has not handed on. -/
structure CopiesBut (c : ChannelId) (s : State) : Prop where
  airWait : c ≠ airChannel → s.air.airWait = s.channels[airChannel].detected
  airCopy : c ≠ airChannel → s.line.airCopy = s.channels[airChannel].detected
  resCopy : c ≠ resChannel → s.line.resCopy = s.channels[resChannel].detected

theorem supervisionSound_iff : SupervisionSound s ↔ (∀ c : ChannelId, ChannelSound s.channels[c]) ∧
    s.air.airWait = s.channels[airChannel].detected ∧ s.line.airCopy = s.channels[airChannel].detected ∧
    s.line.resCopy = s.channels[resChannel].detected := by
  unfold SupervisionSound
  refine and_congr (forall_congr' fun c => ⟨fun ⟨hr, hd, hse, hn, ho, hf, hl⟩ => ⟨hr, hd, hse, hn, ho, hf, hl⟩, fun h =>
    ⟨h.ready, h.detected, h.settleEnd, h.nextSample, h.opposing, h.firstRun, h.runLength⟩⟩) Iff.rfl

theorem SupervisionSound.channel (h : SupervisionSound s) (c : ChannelId) : ChannelSound s.channels[c] :=
  (supervisionSound_iff.1 h).1 c

theorem SupervisionSound.unwatched (h : SupervisionSound s) (hu : Unwatched s t) : SupervisionSound t := by
  rw [supervisionSound_iff] at h ⊢
  rw [hu.channels, hu.airWait, hu.airCopy, hu.resCopy]
  exact h

theorem SupervisionSound.steady (hu : Steady s t) (h : SupervisionSound s) : SupervisionSound t :=
  h.unwatched hu.toUnwatched

/-- A change of one channel's record that has to be handed on when it changes the verdict. -/
structure HandingOn (c : ChannelId) (s : State) : Prop extends CopiesBut c s where
  sound : ∀ c : ChannelId, ChannelSound s.channels[c]

theorem SupervisionSound.onChannel (h : SupervisionSound s) {f : Channel → Channel}
    (hf : ChannelSound (f s.channels[c])) : HandingOn c (s.onChannel c f) := by
  obtain ⟨hch, hw, ha, hr⟩ := supervisionSound_iff.1 h
  have hget : ∀ j : ChannelId, c ≠ j → (s.onChannel c f).channels[j] = s.channels[j] := fun j hj => by
    rw [State.onChannel_get, if_neg hj.symm]
  refine ⟨⟨fun hc => ?_, fun hc => ?_, fun hc => ?_⟩, fun j => ?_⟩
  · rw [hget _ hc]; exact hw
  · rw [hget _ hc]; exact ha
  · rw [hget _ hc]; exact hr
  · rw [State.onChannel_get]
    split
    · next hj => subst hj; exact hf
    · exact hch j

/-- A change of one channel's record that keeps its verdict. -/
theorem SupervisionSound.onChannel_same (h : SupervisionSound s) {f : Channel → Channel}
    (hf : ChannelSound (f s.channels[c])) (hd : (f s.channels[c]).detected = s.channels[c].detected) :
    SupervisionSound (s.onChannel c f) := by
  obtain ⟨-, hw, ha, hr⟩ := supervisionSound_iff.1 h
  have hget : ∀ j : ChannelId, (s.onChannel c f).channels[j].detected = s.channels[j].detected := fun j => by
    rw [State.onChannel_get]
    split
    · next hj => subst hj; exact hd
    · rfl
  rw [supervisionSound_iff, hget, hget]
  exact ⟨(h.onChannel hf).sound, hw, ha, hr⟩

/-- A channel whose verdict the blocks it affects hold. -/
theorem HandingOn.supervisionSound (h : HandingOn c s)
    (ha : c = airChannel → s.air.airWait = s.channels[airChannel].detected ∧
      s.line.airCopy = s.channels[airChannel].detected)
    (hr : c = resChannel → s.line.resCopy = s.channels[resChannel].detected) : SupervisionSound s := by
  rw [supervisionSound_iff]
  refine ⟨h.sound, ?_, ?_, ?_⟩
  · by_cases hc : c = airChannel
    · exact (ha hc).1
    · exact h.airWait hc
  · by_cases hc : c = airChannel
    · exact (ha hc).2
    · exact h.airCopy hc
  · by_cases hc : c = resChannel
    · exact hr hc
    · exact h.resCopy hc

/-- A fill probe's verdict reaches no copy (R139). -/
theorem HandingOn.of_probe (h : HandingOn c s) {k : OutletId} (hk : k.val = c.val) : SupervisionSound s :=
  h.supervisionSound (fun hc => absurd hc (probe_ne hk).1) fun hc => absurd hc (probe_ne hk).2

theorem handDetection_sound (h : HandingOn c s) (hd : s.channels[c].detected = true) :
    SupervisionSound (handDetection c s) := by
  rcases channel_cases c with rfl | rfl | ⟨k, hk⟩
  · have hres : s.line.resCopy = s.channels[resChannel].detected := h.resCopy (by decide)
    rw [handDetection_air, supervisionSound_iff]
    exact ⟨h.sound, hd.symm, hd.symm, hres⟩
  · have hair : airChannel ≠ resChannel := by decide
    rw [handDetection_res, supervisionSound_iff]
    exact ⟨h.sound, h.airWait hair.symm, h.airCopy hair.symm, hd.symm⟩
  · by_cases ho : s.outlets[k].mode = .crate ∧ s.outlets[k].state = .opened
    · rw [handDetection_of_open hk ho.1 ho.2]
      exact (h.of_probe hk).steady (.enterFull k _ s)
    · rw [handDetection_of_not_open hk ho]
      exact h.of_probe hk

theorem handRelease_sound (h : HandingOn c s) (hd : s.channels[c].detected = false) :
    SupervisionSound (handRelease c s) := by
  rw [handRelease_eq]
  split
  · next hc =>
    subst hc
    refine SupervisionSound.steady (.examine _) ?_
    have hres : s.line.resCopy = s.channels[resChannel].detected := h.resCopy (by decide)
    rw [supervisionSound_iff]
    exact ⟨h.sound, hd.symm, hd.symm, hres⟩
  · next ha =>
    split
    · next hc =>
      subst hc
      rw [supervisionSound_iff]
      exact ⟨h.sound, h.airWait ha, h.airCopy ha, hd.symm⟩
    · next hr => exact h.supervisionSound (fun hc => absurd hc ha) fun hc => absurd hc hr

/-- The count and the notice of a detection stand outside what the verdict is copied to (R140). -/
theorem detection_sound (h : HandingOn c s) (hd : s.channels[c].detected = true) : SupervisionSound (detection c s) := by
  have h1 := handDetection_sound h hd
  have h2 : SupervisionSound ((handDetection c s).onChannel c fun ch =>
      { ch with detectionCount := ch.detectionCount + 1 }) := h1.onChannel_same ((h1.channel c).congr rfl) rfl
  rw [detection_eq, countDetection]
  split
  · exact h2.steady (.raiseNotice _ _)
  · exact h2

theorem releaseVerdict_sound (h : HandingOn c s) (hd : s.channels[c].detected = false) :
    SupervisionSound (releaseVerdict c s) := by
  rw [releaseVerdict_eq, noticeRelease]
  split
  · exact (handRelease_sound h hd).steady (.raiseNotice _ _)
  · exact handRelease_sound h hd

end Sys2Proof.Machine
end

section
/-! SUPPORT. The commands that write a channel keep the supervision sound: samples, expiries, the requests to a channel,
INITIALIZE and power-on (R133 to R142, R166). -/

namespace Sys2Proof.Machine

open Sys2Proof

variable {c : ChannelId} {s t : State}

namespace SupervisionSound

/-! ## Samples -/

/-- A channel without a detection goes back to OFF with nothing to hand on (R137, R141). -/
theorem turnOff (h : SupervisionSound s) (hd : s.channels[c].detected = false) (v : Verdict) :
    SupervisionSound (s.onChannel c fun ch => { ch.turnedOff with lastVerdict := v }) :=
  h.onChannel_same (.turnedOff v) hd.symm

theorem firstVerdict (h : SupervisionSound s) (hs : s.channels[c].state = .samplingFirst) (shown : Bool) :
    SupervisionSound (firstVerdict c shown s) := by
  have hoff : s.channels[c].detected = false := (h.channel c).notDetected fun hw => by cases hs.symm.trans hw
  have hf := (h.channel c).watching hs shown (verdictOf shown)
  cases hm : s.channels[c].mode with
  | watch =>
    rw [firstVerdict_of_watch hm]
    dsimp only
    split
    · next hshown =>
      refine detection_sound (h.onChannel hf) ?_
      rw [State.onChannel_get, if_pos rfl]
      exact hshown
    · next hshown => exact h.onChannel_same hf ((Bool.eq_false_iff.2 hshown).trans hoff.symm)
  | checkReport =>
    rw [firstVerdict_of_report (.inl hm)]
    exact (h.turnOff hoff _).steady (.raiseNotice _ _)
  | checkAlert =>
    cases hshown : shown with
    | true =>
      rw [firstVerdict_of_report (.inr ⟨hm, rfl⟩)]
      exact (h.turnOff hoff _).steady (.raiseNotice _ _)
    | false =>
      rw [firstVerdict_of_quiet hm rfl]
      exact h.turnOff hoff _

theorem sampleFirst (h : SupervisionSound s) (hs : s.channels[c].state = .samplingFirst) (shown : Bool) :
    SupervisionSound (sampleFirst c shown s) := by
  unfold Machine.sampleFirst
  dsimp only
  split
  · exact h.firstVerdict hs _
  · next hshort =>
    have hlen := firstRunAfter_length shown (h.channel c).runLength
    exact h.onChannel_same ((h.channel c).counted hs (by omega)) rfl

theorem sampleWatching (h : SupervisionSound s) (hs : s.channels[c].state = .watching) (shown : Bool) :
    SupervisionSound (sampleWatching c shown s) := by
  have hch := h.channel c
  unfold Machine.sampleWatching
  dsimp only
  split
  · exact h.onChannel_same (hch.opposed hs _ (Nat.zero_le 2) _) rfl
  · split
    · next hn => exact h.onChannel_same (hch.opposed hs _ hn _) rfl
    · have hv := h.onChannel (c := c)
        (f := fun ch => { ch with detected := shown, opposing := 0, lastVerdict := verdictOf shown })
        (hch.opposed hs shown (Nat.zero_le 2) _)
      have hd : (s.onChannel c fun ch =>
          { ch with detected := shown, opposing := 0, lastVerdict := verdictOf shown }).channels[c].detected =
            shown := by rw [State.onChannel_get, if_pos rfl]
      split
      · next hshown => exact detection_sound hv (hd.trans hshown)
      · next hshown => exact releaseVerdict_sound hv (hd.trans (Bool.eq_false_iff.2 hshown))

theorem scheduleSample (h : SupervisionSound s)
    (hs : s.channels[c].state = .samplingFirst ∨ s.channels[c].state = .watching) :
    SupervisionSound (scheduleSample c s) :=
  h.onChannel_same ((h.channel c).scheduled hs _) rfl

theorem execChannelSample (h : SupervisionSound s) (c : ChannelId) (above : Bool)
    (hx : execChannelSample c above s = .next t) : SupervisionSound t := by
  have hstate : (Machine.scheduleSample c s).channels[c].state = s.channels[c].state := by rw [scheduleSample_get]
  unfold Machine.execChannelSample at hx
  split at hx
  · exact keeps_next h hx
  · split at hx
    · split at hx
      · next hs =>
        have h1 := (h.scheduleSample (.inl hs)).sampleFirst (hstate.trans hs) (showsCondition c above)
        exact keeps_next (h1.steady (.driveOutputs _)) hx
      · next hs =>
        have h1 := (h.scheduleSample (.inr hs)).sampleWatching (hstate.trans hs) (showsCondition c above)
        exact keeps_next (h1.steady (.driveOutputs _)) hx
      · exact keeps_next h hx
      · exact keeps_next h hx
    · exact keeps_next h hx

theorem execSettleTimeExpiry (h : SupervisionSound s) (c : ChannelId) (hx : execSettleTimeExpiry c s = .next t) :
    SupervisionSound t := by
  unfold Machine.execSettleTimeExpiry at hx
  split at hx
  · next hs _ =>
    split at hx
    · refine keeps_next (P := SupervisionSound) ?_ hx
      rw [Machine.scheduleSample, State.onChannel_onChannel]
      exact h.onChannel_same ((h.channel c).samplingFirst hs _) rfl
    · exact keeps_next h hx
  · exact keeps_next h hx

/-! ## Requests -/

theorem respond (h : SupervisionSound s) (q : Request) (status : Status) :
    SupervisionSound (respond q status [] s) := h.steady (.respond q status [] s)

theorem handleSetChannel : ∀ q s, SupervisionSound s → SupervisionSound (handleSetChannel q s) :=
  withChannel_keeps SupervisionSound.steady fun q c s h => by
    split
    · split
      · split
        · exact (h.respond q .done).onChannel_same ((h.channel c).congr rfl) rfl
        · exact h.respond q _
      · exact h.respond q _
    · exact h.respond q _

theorem handleEnableChannel : ∀ q s, SupervisionSound s → SupervisionSound (handleEnableChannel q s) :=
  withChannel_keeps SupervisionSound.steady fun q c s h => by
    split
    · next hs => exact (h.respond q .done).onChannel_same ((h.channel c).settling hs.1 _) rfl
    · exact h.respond q _

theorem handleChannelOff : ∀ q s, SupervisionSound s → SupervisionSound (handleChannelOff q s) :=
  withChannel_keeps SupervisionSound.steady fun q c s h => by
    have hr := h.respond q .done
    dsimp only
    split
    · have hv := hr.onChannel (c := c) (f := fun ch => { ch.turnedOff with lastVerdict := .clear }) (.turnedOff _)
      have hd := handRelease_sound hv (by rw [State.onChannel_get, if_pos rfl]; rfl)
      exact hd.steady ((Steady.raiseNotice _ _).trans (.driveOutputs _))
    · next hw =>
      have hoff : s.channels[c].detected = false :=
        Bool.eq_false_iff.2 fun hd => hw ⟨(h.channel c).detected hd, hd⟩
      exact hr.onChannel_same (.turnedOff _) hoff.symm

/-- INITIALIZE leaves every channel in OFF, and air wait and the copies clear (R142, R166). -/
theorem initializeBlocks (ha : s.line.airCopy = false) (hr : s.line.resCopy = false) :
    SupervisionSound (initializeBlocks s) := by
  have hch : ∀ c : ChannelId, (Machine.initializeBlocks s).channels[c] = s.channels[c].initialized := fun c => by
    simp [Machine.initializeBlocks]
  rw [supervisionSound_iff]
  simp only [hch]
  exact ⟨fun c => .initialized _, rfl, ha, hr⟩

theorem handleInitialize (q : Request) (s : State) : SupervisionSound (handleInitialize q s) := by
  unfold Machine.handleInitialize
  extract_lets s1 s2
  have hcut := cutPulses_unwatched (discardItems s1)
  have h2 : SupervisionSound s2 := initializeBlocks hcut.airCopy hcut.resCopy
  exact h2.steady ((Steady.respond q .done [] s2).trans ((Steady.raiseNotice _ _).trans (.driveOutputs _)))

/-! ## The commands -/

theorem exec {c : Instr} (hc : WritesChannel c) (h : SupervisionSound s) (hx : exec c s = .next t) :
    SupervisionSound t := by
  cases hc with
  | powerOn p e => exact keeps_next (supervisionSound_powerOn p e s) hx
  | initializeLine => exact handled_keeps SupervisionSound.steady (fun q s _ => handleInitialize q s) h hx
  | settleTimeExpiry c => exact h.execSettleTimeExpiry c hx
  | channelSample c above => exact h.execChannelSample c above hx
  | setChannel => exact handled_keeps SupervisionSound.steady handleSetChannel h hx
  | enableChannel => exact handled_keeps SupervisionSound.steady handleEnableChannel h hx
  | channelOff => exact handled_keeps SupervisionSound.steady handleChannelOff h hx

end SupervisionSound

end Sys2Proof.Machine

open Sys2Proof Sys2Proof.Machine

/-- Settles O12: a command that writes no channel leaves what verdicts are copied to, and one that changes a verdict of AIR
or RES hands it on. -/
theorem stepKeepsSupervisionSound : Obligations.StepKeepsSupervisionSound :=
  fun _ _ hs hx => step_keeps SupervisionSound.steady SupervisionSound.exec hs hx
end

section
/-! SUPPORT. An examination for a grant: the order of the outlets below the rotation mark, and the request that ranks first
in it (R80, R81). -/

namespace Sys2Proof.Machine

open Sys2Proof

variable {s : State} {k : OutletId}

/-! ## The order of the outlets (R81) -/

/-- The outlets below a mark stand in the order of their ranks. -/
theorem orderFrom_pairwise (m : OutletId) :
    (orderFrom m).Pairwise fun j k => rankBelowMark m j < rankBelowMark m k := by
  revert m
  decide

theorem mem_orderFrom (m k : OutletId) : k ∈ orderFrom m := by
  revert m k
  decide

/-- The first of a list in the order of a rank is the one of the lowest rank. -/
theorem find?_of_least {α : Type} {p : α → Bool} {rank : α → Nat} {l : List α} {a : α}
    (hl : l.Pairwise fun x y => rank x < rank y) (ha : a ∈ l) (hp : p a = true)
    (hmin : ∀ b, b ≠ a → p b = true → rank a < rank b) : l.find? p = some a := by
  obtain ⟨front, back, rfl⟩ := List.append_of_mem ha
  have hfront : front.find? p = none := by
    rw [List.find?_eq_none]
    intro b hb hpb
    have hlt : rank b < rank a := (List.pairwise_append.1 hl).2.2 b hb a (by simp)
    have hne : b ≠ a := by
      rintro rfl
      exact lt_irrefl _ hlt
    exact lt_asymm hlt (hmin b hne hpb)
  rw [List.find?_append, hfront, List.find?_cons_of_pos hp]
  rfl

/-- The present order is that of the mark in force: under FIXED as with the mark at outlet 1. -/
theorem grantOrder_eq (s : State) :
    grantOrder s = orderFrom (if s.air.scheme = .fixed then 0 else s.air.rotationMark) := by
  unfold grantOrder
  cases s.air.scheme <;> rfl

/-- The request that ranks first is the first of the set. -/
theorem firstRequest_of_least (hk : s.air.requests[k] ≠ none)
    (hmin : ∀ j : OutletId, j ≠ k → s.air.requests[j] ≠ none →
      rankBelowMark (if s.air.scheme = .fixed then 0 else s.air.rotationMark) k <
        rankBelowMark (if s.air.scheme = .fixed then 0 else s.air.rotationMark) j) :
    firstRequest s = some k := by
  rw [firstRequest, grantOrder_eq]
  exact find?_of_least (orderFrom_pairwise _) (mem_orderFrom _ k) (Option.isSome_iff_ne_none.2 hk)
    fun j hj hp => hmin j hj (Option.isSome_iff_ne_none.1 hp)

theorem examine_of_first (ha : grantAllowed s = true) (hk : firstRequest s = some k) :
    examine s = grantOne (grant k s) := by
  have hone : grantOne s = grant k s := by simp only [grantOne, ha, if_true, hk]
  rw [examine, hone]

end Sys2Proof.Machine

open Sys2Proof Sys2Proof.Machine

/-- Settles O19: the request that ranks first is the one that the order of the scheme finds. -/
theorem examinationGrantsInOrder : Obligations.ExaminationGrantsInOrder := by
  intro s
  refine ⟨fun ⟨hfree, hwait, hmoving, hestop⟩ k hk hmin => ?_, fun h => ?_⟩
  · have ha : grantAllowed s = true := (grantAllowed_iff s).2 ⟨hfree, ⟨k, hk⟩, hwait, hmoving, hestop⟩
    exact examine_of_first ha (firstRequest_of_least hk hmin)
  · exact examine_of_not_allowed (Bool.eq_false_iff.2 fun ha => h ((grantAllowed_iff s).1 ha))
end

section
/-! SUPPORT. The reads of quantities: the items of each list in the order of their numbers, and the answer in the value
form (R92, R115, R129, R143, R167, R175). -/

namespace Sys2Proof.Machine

open Sys2Proof

variable {s : State}

/-! ## The answer in the value form (R175) -/

theorem valueForm_length (v : Option Nat) : (valueForm v).length = 5 := by cases v <;> rfl

/-- The response to a read of an item: `none` is an item out of range. -/
def valueReply (a : StationId) (code tag : Byte) : Option (Option Nat) → CanFrame
  | some v => answer a code tag .done (valueForm v)
  | none => answer a code tag .badValue noResults

/-- A read of a quantity answers the item asked for. -/
theorem read_value {f : Request → State → Option (List Byte)} {a : StationId} {code tag : Byte} {args : List Byte}
    {rest : List Request} {length : Nat} {item : Option (Option Nat)} (h : s.asked a (code :: tag :: args) rest)
    (hl : args.length + 2 = length)
    (hf : f { station := a, data := code :: tag :: args } (s.unanswered rest) = item.map valueForm) :
    takeRequest code.toNat length false (answerRead f) s = s.taken rest (valueReply a code tag item) := by
  cases item with
  | none => exact read_refused h hl hf
  | some v => exact read_answered_form h hl (valueForm_length v) hf

/-! ## The items by their numbers -/

/-- An item behind the end of a list is out of range. -/
theorem getElem?_of_items {α : Type} {l : List α} {f : Nat → Option α} (hin : ∀ n < l.length, l[n]? = f n)
    (hout : ∀ n, l.length ≤ n → f n = none) (n : Nat) : l[n]? = f n := by
  rcases lt_or_ge n l.length with h | h
  · exact hin n h
  · rw [List.getElem?_eq_none h, hout n h]

/-- The items of READ LINE in the order of their numbers (R167). -/
def lineItems (s : State) : List (Option Nat) :=
  [some s.line.state.code, (match s.line.state with | .halt .run => some 1 | .halt .drain => some 2 | _ => none),
    some (flagCode s.line.estop), some s.line.speedRef, some s.line.governor.code, some s.line.runCode,
    some s.line.slowCode, some s.line.slowMark, some (flagCode s.line.airCopy), some (flagCode s.line.resCopy),
    some s.sensing.position.toNat, some s.sensing.debt, some s.sensing.speed, some (flagCode (filteredState .ge s)),
    some s.admission.entries.length, some (flagCode s.admission.identReady), some s.track.records.length,
    some s.geometry.identityOffset, s.geometry.beltEnd, some s.air.slots, some s.air.scheme.code,
    some (s.air.rotationMark.val + 1), some (flagCode s.air.airWait), some (energisedCount s), some (requestCount s)]

theorem lineItems_getElem? (s : State) : ∀ n, (lineItems s)[n]? = lineItem s n := by
  refine getElem?_of_items (fun n hn => ?_) fun n hn => ?_
  · have hn' : n < 25 := hn
    interval_cases n
    on_goal 2 => -- item 1, the state a halt resumes to
      cases hs : s.line.state with
      | halt r => cases r <;> simp [lineItems, lineItem, hs, ResumeState.lineState, LineState.code]
      | _ => simp [lineItems, lineItem, hs]
    all_goals rfl
  · have hn' : 25 ≤ n := hn
    obtain ⟨m, rfl⟩ := Nat.exists_eq_add_of_le' hn'
    rfl

/-- The counters in the order of their indices (R175). -/
def counts (s : State) : List DeviceCount :=
  [s.track.admitted, s.track.sorted, s.track.unconfirmed, s.track.residue, s.track.missed, s.track.abandoned,
    s.admission.untracked, s.admission.overflow, s.admission.noIdentity, s.admission.merged, s.admission.duplicate,
    s.admission.stale, s.admission.badFrame, s.admission.badCheck, s.admission.pendingAbandoned,
    s.sensing.encoderSkip, s.air.grants, s.air.pulsesCut, s.link.requestsLost, s.link.framesSkipped]

theorem counts_getElem? (s : State) : ∀ n, (counts s)[n]? = counterAt s n := by
  refine getElem?_of_items (fun n hn => ?_) fun n hn => ?_
  · have hn' : n < 20 := hn
    interval_cases n
    all_goals rfl
  · have hn' : 20 ≤ n := hn
    obtain ⟨m, rfl⟩ := Nat.exists_eq_add_of_le' hn'
    rfl

/-- The items of READ OUTLET in the order of their numbers (R92, R115). -/
def outletItems (k : OutletId) (s : State) : List (Option Nat) :=
  let o := s.outlets[k]
  let t := s.timing[k]
  [some o.mode.code, some o.owner.val, some o.state.code, some (flagCode o.masked), some (flagCode (accepting k s)),
    some o.confirmWindow, some o.baseCount, some o.currentCount, some (flagCode o.autoreload),
    some (flagCode (decide (o.consecutive = 3 ∧ (o.state = .full ∨ o.state = .swap ∨ o.state = .held)))),
    some o.queue.length, some o.consecutive, some o.cratesCompleted.toNat, some o.sorted.toNat,
    some o.unconfirmed.toNat, some o.overfill.toNat, some o.spill.toNat, some o.stray.toNat,
    some (flagCode (filteredState (.chuteGate k) s)), some (flagCode (filteredState (.crateSensor k) s)),
    some (flagCode (filteredState (.readyLine k) s)), t.offset, some t.latency, some t.extension, some t.minPulse,
    some t.maxPulse, some t.lead, some t.lastPulse.duration, some t.lastPulse.speed, some t.lastPulse.clamp.code,
    some (flagCode (energised k s)), s.air.pulses[k].map (fun p => p.tag.toNat),
    s.air.pulses[k].map (fun p => p.pulseEnd - s.now), s.air.requests[k].map (fun q => q.toNat)]

theorem jamOwed_eq_decide (o : Outlet) :
    jamOwed o = decide (o.consecutive = 3 ∧ (o.state = .full ∨ o.state = .swap ∨ o.state = .held)) := by
  rw [Bool.eq_iff_iff]
  simp [jamOwed, or_assoc]

theorem outletItems_getElem? (k : OutletId) (s : State) : ∀ n, (outletItems k s)[n]? = outletItem k s n := by
  refine getElem?_of_items (fun n hn => ?_) fun n hn => ?_
  · have hn' : n < 34 := hn
    interval_cases n
    on_goal 10 => -- item 9, the jam owed
      exact congrArg (fun b => some (some (flagCode b))) (jamOwed_eq_decide s.outlets[k]).symm
    all_goals rfl
  · have hn' : 34 ≤ n := hn
    obtain ⟨m, rfl⟩ := Nat.exists_eq_add_of_le' hn'
    rfl

/-- The items of READ CHANNEL in the order of their numbers (R129, R143). -/
def channelItems (c : ChannelId) (s : State) : List (Option Nat) :=
  let ch := s.channels[c]
  [some ch.state.code, some ch.mode.code, some ch.trip, some ch.release, some ch.period, some ch.edges.code,
    some ch.reference, some (flagCode ch.ready), some (flagCode ch.detected), some ch.lastVerdict.code,
    some ch.detectionCount.toNat, channelRunCount ch, ch.firstRun.map (fun r => flagCode r.1),
    some (channelOwner c s).val]

theorem channelItems_getElem? (c : ChannelId) (s : State) : ∀ n, (channelItems c s)[n]? = channelItem c s n := by
  refine getElem?_of_items (fun n hn => ?_) fun n hn => ?_
  · have hn' : n < 14 := hn
    interval_cases n
    all_goals rfl
  · have hn' : 14 ≤ n := hn
    obtain ⟨m, rfl⟩ := Nat.exists_eq_add_of_le' hn'
    rfl

/-- The threshold code a channel drives, by its state and its detected state (R129). -/
theorem reference_eq (ch : Channel) : ch.reference =
    match ch.state, ch.detected with
    | .off, _ => 0
    | .watching, true => ch.release
    | .watching, false => ch.trip
    | .settling, _ | .samplingFirst, _ => ch.trip := by
  unfold Channel.reference
  cases ch.state <;> cases ch.detected <;> rfl

/-- The run count of a channel, by its state and its first run (R143). -/
theorem channelRunCount_eq (ch : Channel) : channelRunCount ch =
    match ch.state, ch.firstRun with
    | .samplingFirst, some (_, count) => some count
    | .samplingFirst, none => some 0
    | .watching, _ => some ch.opposing
    | .off, _ | .settling, _ => none := by
  unfold channelRunCount
  cases ch.state <;> cases ch.firstRun <;> rfl

/-! ## The commands -/

section

variable {a : StationId} {tag n i : Byte} {rest : List Request}

theorem outletAnswer_eq (code : Byte) (v : State) : outletAnswer { station := a, data := [code, tag, n, i] } v =
    (outletOf n.toNat).bind fun k => (outletItem k v i.toNat).bind fun x => some (valueForm x) := rfl

theorem channelAnswer_eq (code : Byte) (v : State) : channelAnswer { station := a, data := [code, tag, n, i] } v =
    (channelOf n.toNat).bind fun c => (channelItem c v i.toNat).bind fun x => some (valueForm x) := rfl

theorem exec_readLine (h : s.asked a [0x30, tag, i] rest) :
    exec .readLine s = .next (s.taken rest (valueReply a 0x30 tag (lineItems s)[i.toNat]?)) := by
  refine congrArg Host.Outcome.next (read_value (code := 0x30) h rfl ?_)
  rw [lineItems_getElem?]
  rfl

theorem exec_readCounts (h : s.asked a [0x38, tag, i] rest) : exec .readCounts s =
    .next (s.taken rest (valueReply a 0x38 tag ((counts s).map fun d => some d.toNat)[i.toNat]?)) := by
  refine congrArg Host.Outcome.next (read_value (code := 0x38) h rfl ?_)
  rw [List.getElem?_map, counts_getElem?, Option.map_map]
  rfl

theorem exec_readOutlet {k : OutletId} (h : s.asked a [0x31, tag, n, i] rest) (hn : n = numberByte k) :
    exec .readOutlet s = .next (s.taken rest (valueReply a 0x31 tag (outletItems k s)[i.toNat]?)) := by
  refine congrArg Host.Outcome.next (read_value (code := 0x31) h rfl ?_)
  rw [outletAnswer_eq, hn, outletOf_numberByte, outletItems_getElem?, Option.map_eq_bind]
  rfl

theorem exec_readOutlet_bad (h : s.asked a [0x31, tag, n, i] rest) (hn : ∀ k : OutletId, n ≠ numberByte k) :
    exec .readOutlet s = .next (s.taken rest (answer a 0x31 tag .badValue noResults)) := by
  refine congrArg Host.Outcome.next (read_refused (code := 0x31) h rfl ?_)
  rw [outletAnswer_eq, outletOf_of_ne hn]
  rfl

theorem exec_readChannel {c : ChannelId} (h : s.asked a [0x36, tag, n, i] rest) (hn : n = numberByte c) :
    exec .readChannel s = .next (s.taken rest (valueReply a 0x36 tag (channelItems c s)[i.toNat]?)) := by
  refine congrArg Host.Outcome.next (read_value (code := 0x36) h rfl ?_)
  rw [channelAnswer_eq, hn, channelOf_numberByte, channelItems_getElem?, Option.map_eq_bind]
  rfl

theorem exec_readChannel_bad (h : s.asked a [0x36, tag, n, i] rest) (hn : ∀ c : ChannelId, n ≠ numberByte c) :
    exec .readChannel s = .next (s.taken rest (answer a 0x36 tag .badValue noResults)) := by
  refine congrArg Host.Outcome.next (read_refused (code := 0x36) h rfl ?_)
  rw [channelAnswer_eq, channelOf_of_ne hn]
  rfl

end

end Sys2Proof.Machine

open Sys2Proof Sys2Proof.Machine

/-- Settles O59: each read by the list of its items, and by its subject where it has one. -/
theorem readsAnswerQuantities : Obligations.ReadsAnswerQuantities := by
  unfold Obligations.ReadsAnswerQuantities
  intro flag form answers a tag n i rest s
  have hanswers : ∀ (code : Byte) (items : List (Option Nat)),
      answers s rest a code tag i items = s.taken rest (valueReply a code tag items[i.toNat]?) := by
    intro code items
    simp only [answers]
    cases items[i.toNat]? with
    | none => rfl
    | some v => cases v <;> rfl
  simp only [hanswers]
  refine ⟨exec_readLine, exec_readCounts, fun h => ⟨exec_readOutlet_bad h, fun k hn => exec_readOutlet h hn⟩,
    fun h => ⟨exec_readChannel_bad h, fun c hn => ?_⟩⟩
  rw [exec_readChannel h hn, channelItems]
  simp only [reference_eq, channelRunCount_eq]
  rfl
end
